-- ==== Sys2Proof/Word.lean ====
section
/-! DEFINITION. The word types of the block: 32-bit registers, 16-bit raw codes, bytes, 4-bit word indices (R5, R22, R40), and the platform's signals (R5). -/

namespace Sys2Proof

/-- A register value or a command word: 32 bits (R5, R22). -/
abbrev Word := BitVec 32

/-- A raw code, or one 16-bit half of a serial number (R5). -/
abbrev Half := BitVec 16

/-- A byte of a frame, a ROM entry, a CRC value (R5). -/
abbrev Byte := BitVec 8

/-- A word index of the host port: 4 bits, 16 word slots (R5, R40). -/
abbrev WordIndex := BitVec 4

/-- A signal of the platform, by the platform's own number for it (log 14). -/
abbrev Signal := Nat

end Sys2Proof
end

