-- ==== Sys2Proof/Config.lean ====
section
/-! DEFINITION. What a platform fixes and the spec leaves open (R5, the parameters marked OPEN). -/

namespace Sys2Proof

/-- `CRCDEC_BASE`: the byte address of word index 0 in the host's address space. The spec leaves it OPEN (R5, D4, U14), so it has no value here: a statement that names it holds for every base address (log 4). -/
opaque Config.crcdecBase : Nat

/-- `reset_source`: which platform signal asserts the block's reset. The spec leaves it OPEN (R5, D17, U15), so it has no value here: a statement that names it holds whichever signal it is (log 14). -/
opaque Config.resetSource : Signal

end Sys2Proof
end

