-- ==== Sys2Proof/Syntax.lean ====
section
/-! DEFINITION. The block's commands: one constructor per row of spec/opcode_table.json. -/

namespace Sys2Proof

/-- The eight commands (R2, R61). A command word carries no operand: every operand comes from IN0 and IN1 (R60, R62). -/
inductive Instr where
  /-- CRC_COMPUTE (R85) -/
  | crcCompute
  /-- CRC_VERIFY (R86) -/
  | crcVerify
  /-- CRC_STEP (R87) -/
  | crcStep
  /-- DECODE_MEAS (R102) -/
  | decodeMeas
  /-- DECODE_SERIAL (R104) -/
  | decodeSerial
  /-- CONV_T (R122) -/
  | convT
  /-- CONV_RH (R125) -/
  | convRh
  /-- CONV_Q88 (R128) -/
  | convQ88
  deriving DecidableEq, Repr

end Sys2Proof
end

