-- ==== Sys2Proof/WellFormed.lean ====
section
/-! DEFINITION. Which command words are legal (R61, R64), check by check. A command has no operand field, so every term of Instr is well formed; what can be ill formed is the word a host writes to CMD. -/

namespace Sys2Proof

/-- R60, R64: the reserved field RSVD, bits 31 to 8, must be zero. -/
def rsvdIsZero (w : Word) : Bool :=
  w.extractLsb' 8 24 == 0#24

/-- The opcode map's column OP (R61). -/
def opcodes : List Byte :=
  [0x01#8, 0x02#8, 0x03#8, 0x10#8, 0x11#8, 0x20#8, 0x21#8, 0x22#8]

/-- R64: bits 7 to 0 are one of the eight opcodes of R61. -/
def opcodeIsListed (w : Word) : Bool :=
  opcodes.contains (w.extractLsb' 0 8)

/-- A command word is legal when both checks pass (R61, R64). -/
def legalWord (w : Word) : Bool :=
  rsvdIsZero w && opcodeIsListed w

/-- A command as syntax has no field that could be out of range (R60: "no register numbers and no immediates"). -/
def Instr.wellFormed : Instr → Bool
  | .crcCompute => true
  | .crcVerify => true
  | .crcStep => true
  | .decodeMeas => true
  | .decodeSerial => true
  | .convT => true
  | .convRh => true
  | .convQ88 => true

end Sys2Proof
end

