-- ==== Sys2Proof/Decode.lean ====
section
/-! DEFINITION. The decoder of command words, total and rejecting by name (R64, R67), and the encoder (R60, R61). -/

namespace Sys2Proof

/-- Why a command word is illegal (R64). -/
inductive DecodeError where
  /-- RSVD, bits 31 to 8, is not zero. -/
  | reservedNotZero
  /-- RSVD is zero and OP is not one of the eight opcodes. -/
  | unlistedOpcode
  deriving DecidableEq, Repr

/-- The command an opcode byte selects (R61, R67). -/
def decodeOpcode (op : Byte) : Option Instr :=
  match op with
  | 0x01#8 => some .crcCompute
  | 0x02#8 => some .crcVerify
  | 0x03#8 => some .crcStep
  | 0x10#8 => some .decodeMeas
  | 0x11#8 => some .decodeSerial
  | 0x20#8 => some .convT
  | 0x21#8 => some .convRh
  | 0x22#8 => some .convQ88
  | _ => none

/-- The decoder of R67: the reserved field is checked first, then the opcode. -/
def decode (w : Word) : Except DecodeError Instr :=
  if w.extractLsb' 8 24 ≠ 0#24 then .error .reservedNotZero
  else
    match decodeOpcode (w.extractLsb' 0 8) with
    | some i => .ok i
    | none => .error .unlistedOpcode

/-- The opcode of a command (R61). -/
def opcode : Instr → Byte
  | .crcCompute => 0x01#8
  | .crcVerify => 0x02#8
  | .crcStep => 0x03#8
  | .decodeMeas => 0x10#8
  | .decodeSerial => 0x11#8
  | .convT => 0x20#8
  | .convRh => 0x21#8
  | .convQ88 => 0x22#8

/-- The command word of a command: RSVD = 0 above OP (R60). -/
def encode (i : Instr) : Word :=
  0#24 ++ opcode i

/-- The command word whose bits are `w`, of which the opcode table gives the low `nbits` and the others are 0. A command is exactly one 32-bit word (R66), so bits above 31 do not exist (log 12). -/
def commandWord (nbits w : Nat) : Word :=
  BitVec.ofNat 32 (w % 2 ^ nbits)

/-- What the decoder reads from a row of spec/opcode_table.json with bits `w`. -/
def decodeTableWord (nbits w : Nat) : Option Instr :=
  match decode (commandWord nbits w) with
  | .ok i => some i
  | .error _ => none

end Sys2Proof
end

