-- ==== Sys2Proof/Machine/Operands.lean ====
section
/-! DEFINITION. Operand fields, widening, signed patterns and frame packing (R7, R8, R62, R63, R100). -/

namespace Sys2Proof.Machine

/-- The operand field [15:0] of IN0 (R62). -/
def low16 (w : Word) : Half :=
  w.extractLsb' 0 16

/-- The operand field [7:0] of IN0 or IN1 (R62). -/
def low8 (w : Word) : Byte :=
  w.extractLsb' 0 8

/-- `field(w) = (raw, c)`: raw is w[23:8], the checksum byte is w[7:0], and w[31:24] is ignored (R100). -/
def field (w : Word) : Half × Byte :=
  (w.extractLsb' 8 16, w.extractLsb' 0 8)

/-- The high byte [15:8] of a 16-bit value, the byte received first (R41). -/
def highByte (v : Half) : Byte :=
  v.extractLsb' 8 8

/-- The low byte [7:0] of a 16-bit value. -/
def lowByte (v : Half) : Byte :=
  v.extractLsb' 0 8

/-- `zext_32` (R7), of a value of at most 32 bits. -/
def zext32 {n : Nat} (v : BitVec n) : Word :=
  v.setWidth 32

/-- `sext_32` of a 16-bit value (R7). -/
def sext32 (v : Half) : Word :=
  v.signExtend 32

/-- `to_s32(i)`: the pattern `i mod 2^32` (R7). -/
def toS32 (i : Int) : Word :=
  BitVec.ofInt 32 i

/-- `from_s32(p)`: the signed value of a 32-bit pattern (R7). -/
def fromS32 (p : Word) : Int :=
  p.toInt

/-- One field of a frame packed into a register, the byte received first most significant (R63); bits 31 to 24, which no command reads, are 0 as in R69. -/
def packField (b0 b1 b2 : Byte) : Word :=
  0x00#8 ++ b0 ++ b1 ++ b2

end Sys2Proof.Machine
end

