-- ==== Sys2Proof/Machine/Flags.lean ====
section
/-! DEFINITION. The STATUS register: its fields (R24) and the value each outcome writes (R33, R103, R142). -/

namespace Sys2Proof.Machine

/-- OK, bit 0 of STATUS (R24). -/
def okFlag (status : Word) : Bool :=
  status.getLsbD 0

/-- CRC0_ERR, bit 1 of STATUS (R24). -/
def crc0ErrFlag (status : Word) : Bool :=
  status.getLsbD 1

/-- CRC1_ERR, bit 2 of STATUS (R24). -/
def crc1ErrFlag (status : Word) : Bool :=
  status.getLsbD 2

/-- ILLEGAL, bit 3 of STATUS (R24). -/
def illegalFlag (status : Word) : Bool :=
  status.getLsbD 3

/-- STATUS after a legal command without a checksum failure: OK (R33). -/
def statusOk : Word :=
  0x00000001#32

/-- STATUS after an illegal command word: ILLEGAL (R33, R142). -/
def statusIllegal : Word :=
  0x00000008#32

/-- STATUS after a failed decode: CRC0_ERR where field 0 failed, CRC1_ERR where field 1 failed, both where both did (R103, R105). -/
def statusDecodeFail (ok0 ok1 : Bool) : Word :=
  (if !ok0 then 0x00000002#32 else 0#32) ||| (if !ok1 then 0x00000004#32 else 0#32)

end Sys2Proof.Machine
end

