-- ==== Sys2Proof/Machine/State.lean ====
section
/-! DEFINITION. The state of the block and of its one host, the ways a step can stop, and the state after reset (R20, R21, R34). -/

namespace Sys2Proof.Machine

/-- One move of the host against the block (R43, R56), a signal of the platform (R160), or an access through a platform's byte-addressed bridge (R46). -/
inductive HostMove where
  /-- `Read(widx)` of the host port (R43, R44). -/
  | read (widx : WordIndex)
  /-- `Write(widx, data)` of the host port (R43, R45). -/
  | write (widx : WordIndex) (data : Word)
  /-- The platform asserts one of its signals between two accesses; `reset_source` is the one that asserts the block's reset (R5, R56, R160, R161, log 14). -/
  | signal (sig : Signal)
  /-- A read of `nbytes` bytes at byte address `addr` through a bridge (R46, log 4). -/
  | bridgeRead (addr nbytes : Nat)
  /-- A write of `nbytes` bytes at byte address `addr` through a bridge, `data` being the word the bridge presents to the port (R46, log 4). -/
  | bridgeWrite (addr nbytes : Nat) (data : Word)
  deriving DecidableEq, Repr

/-- The seven stored registers (R20, R22) and the host's side of the port (R21, R56). CMD has no storage (R23) and the ROM is a constant (R30). -/
structure State where
  /-- STATUS (R24): OK in bit 0, CRC0_ERR in bit 1, CRC1_ERR in bit 2, ILLEGAL in bit 3. -/
  status : Word
  /-- IN0 (R26). -/
  in0 : Word
  /-- IN1 (R27). -/
  in1 : Word
  /-- OUT0 (R28). -/
  out0 : Word
  /-- OUT1 (R28). -/
  out1 : Word
  /-- OUT2 (R28). -/
  out2 : Word
  /-- OUT3 (R28). -/
  out3 : Word
  /-- The host's list of moves (R21, log 1). -/
  program : List HostMove
  /-- The index of the host's next move in `program` (R21, log 1). -/
  position : Nat
  /-- The words the host got back from its reads so far, oldest first (R43, R56, log 1). -/
  received : List Word
  deriving DecidableEq, Repr

/-- The faults of the block: none. "The block raises no exception, trap or fault and never stops" (R140), so nothing raises one and the type has no constructor (log 6). -/
inductive Fault where
  deriving DecidableEq, Repr

/-- Where the model gives no meaning. -/
inductive Refusal where
  /-- Raised by exec alone, for a command without a meaning; no command is left so. Safe: nothing can be proved of a next state. -/
  | notModelled (mnemonic : String)
  /-- Raised by a bridge access at a byte address that is not CRCDEC_BASE + 4 * widx for a word index of the port; R46 asks a model to refuse it. Safe: the step gives no next state. -/
  | bridgeAddress
  /-- Raised by a bridge access at a word's address that is narrower or wider than 32 bits; R46 asks a model to refuse it. Safe: the step gives no next state. -/
  | bridgeWidth
  deriving DecidableEq, Repr

/-- The state right after reset: every register 0x00000000 (R34, R160); the host has been given no moves yet (log 3). -/
def State.reset : State where
  status := 0x00000000#32
  in0 := 0x00000000#32
  in1 := 0x00000000#32
  out0 := 0x00000000#32
  out1 := 0x00000000#32
  out2 := 0x00000000#32
  out3 := 0x00000000#32
  program := []
  position := 0
  received := []

end Sys2Proof.Machine
end

