-- ==== Sys2Proof/Machine/Ops.lean ====
section
/-! DEFINITION. The named operations over the state: register writes, the three outcomes of a command (R28, R33, R103, R142), the reset action (R160) and the host's bookkeeping (R21). The block takes no exception (R140, R146): its error outcomes are `decodeFail` and `illegalCommand`. -/

namespace Sys2Proof.Machine

/-- `x[STATUS] <- v` (R10, R25): the whole of STATUS is replaced. -/
def State.writeStatus (v : Word) (s : State) : State :=
  { s with status := v }

/-- `x[IN0] <- v` (R10, R26). -/
def State.writeIn0 (v : Word) (s : State) : State :=
  { s with in0 := v }

/-- `x[IN1] <- v` (R10, R27). -/
def State.writeIn1 (v : Word) (s : State) : State :=
  { s with in1 := v }

/-- The four result registers written together (R10, R28). -/
def State.writeOuts (o0 o1 o2 o3 : Word) (s : State) : State :=
  { s with out0 := o0, out1 := o1, out2 := o2, out3 := o3 }

/-- A legal command ends without a checksum failure: OUT0 to OUT3 hold its results and STATUS is OK (R28, R33). -/
def State.complete (o0 o1 o2 o3 : Word) (s : State) : State :=
  (s.writeOuts o0 o1 o2 o3).writeStatus statusOk

/-- `DecodeFail(ok0, ok1)`: OUT0 to OUT3 are zeroed and STATUS reports each field (R103). -/
def State.decodeFail (ok0 ok1 : Bool) (s : State) : State :=
  (s.writeOuts 0#32 0#32 0#32 0#32).writeStatus (statusDecodeFail ok0 ok1)

/-- An illegal command word: STATUS is 0x00000008 and nothing else changes (R142). -/
def State.illegalCommand (s : State) : State :=
  s.writeStatus statusIllegal

/-- The reset action: every register takes its reset value (R160). It is no access of the host's, so the host's list, its position in it and what it got back stay (log 5). -/
def State.resetRegisters (s : State) : State :=
  { State.reset with program := s.program, position := s.position, received := s.received }

/-- The platform's reset of the block: it asserts `reset_source` (R5, R56, R160). -/
def HostMove.reset : HostMove :=
  .signal Config.resetSource

/-- The platform asserts the signal `sig`: the block's reset is asserted by `reset_source` (R160), and no other signal reaches the block (log 14). -/
def State.takeSignal (sig : Signal) (s : State) : State :=
  if sig = Config.resetSource then s.resetRegisters else s

/-- The host's next move, if it has one left (R21). -/
def State.nextMove (s : State) : Option HostMove :=
  s.program[s.position]?

/-- The host goes on to its next move (R21). -/
def State.advance (s : State) : State :=
  { s with position := s.position + 1 }

/-- The host gets a word back from a read (R43, R56). -/
def State.receive (v : Word) (s : State) : State :=
  { s with received := s.received ++ [v] }

/-- The host's list with `m` as its next move, in the place of the move that stood there (log 3). -/
def State.placeMove (m : HostMove) (s : State) : State :=
  { s with
    program := s.program.take s.position ++ m :: s.program.drop (s.position + 1)
    position := min s.position s.program.length }

end Sys2Proof.Machine
end

