-- ==== Sys2Proof/Machine/Checksum.lean ====
section
/-! DEFINITION. The checksum family: the ROM (R81), the CRC functions (R80 to R83, R93) and CRC_COMPUTE, CRC_VERIFY, CRC_STEP (R85 to R87). -/

namespace Sys2Proof.Machine

/-- The CRC polynomial 0x31 (R5, R80, R120). -/
def crcPoly : Byte :=
  0x31#8

/-- The CRC initial value 0xFF (R5, R80, R83). -/
def crcInit : Byte :=
  0xFF#8

/-- The generator step `f` of R80: shift left by one, then XOR the polynomial where bit 7 was set. -/
def crcBitStep (x : Byte) : Byte :=
  (x <<< 1) ^^^ (if x.getLsbD 7 then crcPoly else 0x00#8)

/-- `f^8(i)`: the bit-serial form of one byte step (R81, R84). -/
def crcBits8 (i : Byte) : Byte :=
  Nat.iterate crcBitStep 8 i

/-- Row 0_ of R81's listing. -/
def romRow0 : List Byte :=
  [0x00, 0x31, 0x62, 0x53, 0xC4, 0xF5, 0xA6, 0x97, 0xB9, 0x88, 0xDB, 0xEA, 0x7D, 0x4C, 0x1F, 0x2E]

/-- Row 1_ of R81's listing. -/
def romRow1 : List Byte :=
  [0x43, 0x72, 0x21, 0x10, 0x87, 0xB6, 0xE5, 0xD4, 0xFA, 0xCB, 0x98, 0xA9, 0x3E, 0x0F, 0x5C, 0x6D]

/-- Row 2_ of R81's listing. -/
def romRow2 : List Byte :=
  [0x86, 0xB7, 0xE4, 0xD5, 0x42, 0x73, 0x20, 0x11, 0x3F, 0x0E, 0x5D, 0x6C, 0xFB, 0xCA, 0x99, 0xA8]

/-- Row 3_ of R81's listing. -/
def romRow3 : List Byte :=
  [0xC5, 0xF4, 0xA7, 0x96, 0x01, 0x30, 0x63, 0x52, 0x7C, 0x4D, 0x1E, 0x2F, 0xB8, 0x89, 0xDA, 0xEB]

/-- Row 4_ of R81's listing. -/
def romRow4 : List Byte :=
  [0x3D, 0x0C, 0x5F, 0x6E, 0xF9, 0xC8, 0x9B, 0xAA, 0x84, 0xB5, 0xE6, 0xD7, 0x40, 0x71, 0x22, 0x13]

/-- Row 5_ of R81's listing. -/
def romRow5 : List Byte :=
  [0x7E, 0x4F, 0x1C, 0x2D, 0xBA, 0x8B, 0xD8, 0xE9, 0xC7, 0xF6, 0xA5, 0x94, 0x03, 0x32, 0x61, 0x50]

/-- Row 6_ of R81's listing. -/
def romRow6 : List Byte :=
  [0xBB, 0x8A, 0xD9, 0xE8, 0x7F, 0x4E, 0x1D, 0x2C, 0x02, 0x33, 0x60, 0x51, 0xC6, 0xF7, 0xA4, 0x95]

/-- Row 7_ of R81's listing. -/
def romRow7 : List Byte :=
  [0xF8, 0xC9, 0x9A, 0xAB, 0x3C, 0x0D, 0x5E, 0x6F, 0x41, 0x70, 0x23, 0x12, 0x85, 0xB4, 0xE7, 0xD6]

/-- Row 8_ of R81's listing. -/
def romRow8 : List Byte :=
  [0x7A, 0x4B, 0x18, 0x29, 0xBE, 0x8F, 0xDC, 0xED, 0xC3, 0xF2, 0xA1, 0x90, 0x07, 0x36, 0x65, 0x54]

/-- Row 9_ of R81's listing. -/
def romRow9 : List Byte :=
  [0x39, 0x08, 0x5B, 0x6A, 0xFD, 0xCC, 0x9F, 0xAE, 0x80, 0xB1, 0xE2, 0xD3, 0x44, 0x75, 0x26, 0x17]

/-- Row A_ of R81's listing. -/
def romRowA : List Byte :=
  [0xFC, 0xCD, 0x9E, 0xAF, 0x38, 0x09, 0x5A, 0x6B, 0x45, 0x74, 0x27, 0x16, 0x81, 0xB0, 0xE3, 0xD2]

/-- Row B_ of R81's listing. -/
def romRowB : List Byte :=
  [0xBF, 0x8E, 0xDD, 0xEC, 0x7B, 0x4A, 0x19, 0x28, 0x06, 0x37, 0x64, 0x55, 0xC2, 0xF3, 0xA0, 0x91]

/-- Row C_ of R81's listing. -/
def romRowC : List Byte :=
  [0x47, 0x76, 0x25, 0x14, 0x83, 0xB2, 0xE1, 0xD0, 0xFE, 0xCF, 0x9C, 0xAD, 0x3A, 0x0B, 0x58, 0x69]

/-- Row D_ of R81's listing. -/
def romRowD : List Byte :=
  [0x04, 0x35, 0x66, 0x57, 0xC0, 0xF1, 0xA2, 0x93, 0xBD, 0x8C, 0xDF, 0xEE, 0x79, 0x48, 0x1B, 0x2A]

/-- Row E_ of R81's listing. -/
def romRowE : List Byte :=
  [0xC1, 0xF0, 0xA3, 0x92, 0x05, 0x34, 0x67, 0x56, 0x78, 0x49, 0x1A, 0x2B, 0xBC, 0x8D, 0xDE, 0xEF]

/-- Row F_ of R81's listing. -/
def romRowF : List Byte :=
  [0x82, 0xB3, 0xE0, 0xD1, 0x46, 0x77, 0x24, 0x15, 0x3B, 0x0A, 0x59, 0x68, 0xFF, 0xCE, 0x9D, 0xAC]

/-- The listing of R81, row by row: the row is the high nibble of the entry's index. -/
def romRows : List (List Byte) :=
  [romRow0, romRow1, romRow2, romRow3, romRow4, romRow5, romRow6, romRow7]
    ++ [romRow8, romRow9, romRowA, romRowB, romRowC, romRowD, romRowE, romRowF]

/-- `ROM[i]`: entry `i` of the constant lookup table (R10, R30, R81): row the high nibble of `i`, column its low nibble. -/
def rom (i : Byte) : Byte :=
  (romRows.getD (i.toNat / 16) []).getD (i.toNat % 16) 0x00#8

/-- `crc_step(acc, b) = ROM[acc ^ b]` (R82). -/
def crcStep (acc b : Byte) : Byte :=
  rom (acc ^^^ b)

/-- `crc8(v)`: the high byte first, then the low byte (R83). -/
def crc8 (v : Half) : Byte :=
  crcStep (crcStep crcInit (highByte v)) (lowByte v)

/-- The bit-serial form of `crc8`, which R84 says is equal to it. -/
def crc8BitSerial (v : Half) : Byte :=
  crcBits8 (crcBits8 (crcInit ^^^ highByte v) ^^^ lowByte v)

/-- The CRC of a byte string (R93). -/
def crcStream (bytes : List Byte) : Byte :=
  bytes.foldl crcStep crcInit

/-- CRC_COMPUTE (R85): OUT0 is the CRC of IN0[15:0]. -/
def execCrcCompute (s : State) : Host.Outcome State Fault Refusal :=
  .next (s.complete (zext32 (crc8 (low16 s.in0))) 0#32 0#32 0#32)

/-- CRC_VERIFY (R86): OUT0 says whether the CRC of IN0[15:0] is IN1[7:0], OUT1 is that CRC. STATUS is OK either way. -/
def execCrcVerify (s : State) : Host.Outcome State Fault Refusal :=
  .next (s.complete
    (if crc8 (low16 s.in0) = low8 s.in1 then 0x00000001#32 else 0x00000000#32)
    (zext32 (crc8 (low16 s.in0))) 0#32 0#32)

/-- CRC_STEP (R87): OUT0 is `ROM[acc ^ byte]`, acc from IN0[7:0] and byte from IN1[7:0]. -/
def execCrcStep (s : State) : Host.Outcome State Fault Refusal :=
  .next (s.complete (zext32 (crcStep (low8 s.in0) (low8 s.in1))) 0#32 0#32 0#32)

end Sys2Proof.Machine
end

