-- ==== Sys2Proof/Machine/Convert.lean ====
section
/-! DEFINITION. The conversion family: the exact formulas and their fixed-point forms (R120, R121, R124, R127) and CONV_T, CONV_RH, CONV_Q88 (R122, R125, R128). Arithmetic is on unbounded integers (R9); every `div` of these rules has a positive divisor, where Lean's `/` on Int is the floor R9 asks for (log 11). -/

namespace Sys2Proof.Machine

/-- `T_exact(raw)` in °C (R121): the source's formula as a rational. -/
def tExact (raw : Half) : Rat :=
  -45 + 175 * (raw.toNat : Rat) / 65535

/-- `temp_num(raw)` (R121). -/
def tempNum (raw : Half) : Int :=
  175 * (raw.toNat : Int) - 2949075

/-- `temp_milli(raw)` in m°C (R121). -/
def tempMilli (raw : Half) : Int :=
  -45000 + (175000 * (raw.toNat : Int) + 32767) / 65535

/-- `RH_exact(raw)` in %RH (R124): the source's formula as a rational. -/
def rhExact (raw : Half) : Rat :=
  -6 + 125 * (raw.toNat : Rat) / 65535

/-- `rh_num(raw)` (R124). -/
def rhNum (raw : Half) : Int :=
  125 * (raw.toNat : Int) - 393210

/-- `rh_milli(raw)` in m%RH (R124); not clamped (R126). -/
def rhMilli (raw : Half) : Int :=
  -6000 + (125000 * (raw.toNat : Int) + 32767) / 65535

/-- `s = from_s32(sext_32(raw))`: the signed value of a Q8.8 code (R127). -/
def q88Signed (raw : Half) : Int :=
  fromS32 (sext32 raw)

/-- `Q_exact(raw)` in °C (R127). -/
def qExact (raw : Half) : Rat :=
  (q88Signed raw : Rat) / 256

/-- `q88_milli(raw)` in m°C: to nearest, ties toward +infinity (R127). -/
def q88Milli (raw : Half) : Int :=
  (1000 * q88Signed raw + 128) / 256

/-- CONV_T (R122). -/
def execConvT (s : State) : Host.Outcome State Fault Refusal :=
  .next (s.complete (toS32 (tempMilli (low16 s.in0))) (toS32 (tempNum (low16 s.in0))) 0#32 0#32)

/-- CONV_RH (R125). -/
def execConvRh (s : State) : Host.Outcome State Fault Refusal :=
  .next (s.complete (toS32 (rhMilli (low16 s.in0))) (toS32 (rhNum (low16 s.in0))) 0#32 0#32)

/-- CONV_Q88 (R128). -/
def execConvQ88 (s : State) : Host.Outcome State Fault Refusal :=
  .next (s.complete (toS32 (q88Milli (low16 s.in0))) (sext32 (low16 s.in0)) 0#32 0#32)

end Sys2Proof.Machine
end

