-- ==== Sys2Proof/Machine/Frame.lean ====
section
/-! DEFINITION. The frame-decode family: field validity (R101) and DECODE_MEAS, DECODE_SERIAL (R102 to R105). -/

namespace Sys2Proof.Machine

/-- `valid(w)`: the CRC of the field's value is its checksum byte (R101). -/
def fieldValid (w : Word) : Bool :=
  crc8 (field w).1 == (field w).2

/-- The shared shape of both decode commands: both fields are always checked (R105), and the results stand only when both are valid (R103). -/
def State.decodeFrame (o0 o1 o2 o3 : Word) (s : State) : State :=
  if fieldValid s.in0 && fieldValid s.in1 then s.complete o0 o1 o2 o3
  else s.decodeFail (fieldValid s.in0) (fieldValid s.in1)

/-- DECODE_MEAS (R102): field 0 is the temperature, field 1 the humidity. -/
def execDecodeMeas (s : State) : Host.Outcome State Fault Refusal :=
  .next (s.decodeFrame
    (toS32 (tempMilli (field s.in0).1)) (toS32 (rhMilli (field s.in1).1))
    (zext32 (field s.in0).1) (zext32 (field s.in1).1))

/-- DECODE_SERIAL (R104): field 0 is the high half and field 1 the low half of the serial number. -/
def execDecodeSerial (s : State) : Host.Outcome State Fault Refusal :=
  .next (s.decodeFrame
    ((field s.in0).1 ++ (field s.in1).1)
    (zext32 (field s.in0).1) (zext32 (field s.in1).1) 0#32)

end Sys2Proof.Machine
end

