-- ==== Sys2Proof/Machine/Dispatch.lean ====
section
/-! DEFINITION. exec: the meaning of each command, one arm per constructor (R61, R67). -/

namespace Sys2Proof.Machine

def exec (i : Instr) (s : State) : Host.Outcome State Fault Refusal :=
  match i with
  | .crcCompute => Sys2Proof.Machine.execCrcCompute s
  | .crcVerify => Sys2Proof.Machine.execCrcVerify s
  | .crcStep => Sys2Proof.Machine.execCrcStep s
  | .decodeMeas => Sys2Proof.Machine.execDecodeMeas s
  | .decodeSerial => Sys2Proof.Machine.execDecodeSerial s
  | .convT => Sys2Proof.Machine.execConvT s
  | .convRh => Sys2Proof.Machine.execConvRh s
  | .convQ88 => Sys2Proof.Machine.execConvQ88 s

end Sys2Proof.Machine
end

