-- ==== Sys2Proof/Machine/HostPort.lean ====
section
/-! DEFINITION. The host port: reads (R44), writes (R45), the command a CMD write performs (R67), the platform bridge (R46), and one move of the host (R43, R56). -/

namespace Sys2Proof.Machine

/-- `MemRead(widx, 4)` (R44): what the host gets back. CMD and the unmapped words 8 to 15 read 0. -/
def State.readWord (widx : WordIndex) (s : State) : Word :=
  match widx with
  | 0#4 => 0x00000000#32
  | 1#4 => s.status
  | 2#4 => s.in0
  | 3#4 => s.in1
  | 4#4 => s.out0
  | 5#4 => s.out1
  | 6#4 => s.out2
  | 7#4 => s.out3
  | _ => 0x00000000#32

/-- `Execute(w)` (R67): a legal word performs its command, an illegal one sets STATUS to ILLEGAL and nothing else (R142). -/
def execute (w : Word) (s : State) : Host.Outcome State Fault Refusal :=
  match decode w with
  | .ok i => exec i s
  | .error _ => .next s.illegalCommand

/-- A host read: the host gets the word, and no register changes (R44, R48). -/
def hostRead (widx : WordIndex) (s : State) : Host.Outcome State Fault Refusal :=
  .next (s.receive (s.readWord widx))

/-- `MemWrite(widx, 4, v)` (R45): CMD performs a command, IN0 and IN1 store, every other word ignores the write. -/
def hostWrite (widx : WordIndex) (v : Word) (s : State) : Host.Outcome State Fault Refusal :=
  match widx with
  | 0#4 => execute v s
  | 2#4 => .next (s.writeIn0 v)
  | 3#4 => .next (s.writeIn1 v)
  | _ => .next s

/-- The word index at byte address `addr`: `CRCDEC_BASE + 4 * widx` is word `widx`, and no other address is one of the port's (R46). -/
def bridgeIndex (addr : Nat) : Option WordIndex :=
  if Config.crcdecBase ≤ addr ∧ (addr - Config.crcdecBase) % 4 = 0 ∧ (addr - Config.crcdecBase) / 4 < 16 then
    some (BitVec.ofNat 4 ((addr - Config.crcdecBase) / 4))
  else none

/-- What reaches the port of a bridge access: a whole word at a word's address performs `access`; anything else is refused (R46). -/
def bridgeAccess (addr nbytes : Nat) (access : WordIndex → Host.Outcome State Fault Refusal) :
    Host.Outcome State Fault Refusal :=
  match bridgeIndex addr with
  | none => .refused .bridgeAddress
  | some widx => if nbytes = 4 then access widx else .refused .bridgeWidth

/-- The block's part of one move of the host, done at once (R43, R47, R56, R160). -/
def perform (m : HostMove) (s : State) : Host.Outcome State Fault Refusal :=
  match m with
  | .read widx => hostRead widx s
  | .write widx data => hostWrite widx data s
  | .signal sig => .next (s.takeSignal sig)
  | .bridgeRead addr nbytes => bridgeAccess addr nbytes (fun widx => hostRead widx s)
  | .bridgeWrite addr nbytes data => bridgeAccess addr nbytes (fun widx => hostWrite widx data s)

/-- One step: the host's next move, the host then standing past it (R21, R51). With no move left nothing happens, since the block has no step of its own (R20, log 2). -/
def hostStep (s : State) : Host.Outcome State Fault Refusal :=
  match s.nextMove with
  | none => .next s
  | some m => perform m s.advance

end Sys2Proof.Machine
end

