-- ==== Sys2Proof/Machine/Step.lean ====
section
/-! DEFINITION. The step function, and the placing of a command word where the next step takes it. -/

namespace Sys2Proof.Machine

/-- One step of the machine: one move of the host, atomic with the command it starts (R20, R47). -/
def step (s : State) : Host.Outcome State Fault Refusal :=
  hostStep s

/-- `s` with the write of the command word `w` to CMD as the host's next move: the block has no fetch (R21), and a command is exactly one write to CMD (R66, log 3). -/
def State.withFetchWord (s : State) (nbits w : Nat) : State :=
  s.placeMove (.write 0#4 (commandWord nbits w))

end Sys2Proof.Machine
end

