-- ==== Sys2Proof/Machine/HostAsm.lean ====
section
/-! DEFINITION. The host-access assembly of the spec: statements, their accesses and listing (R68), and the pseudo-instructions (R69). -/

namespace Sys2Proof.Machine

/-- A register name of a statement: one of the eight registers, or a word index `#n` (R68). -/
inductive RegName where
  | cmd | status | in0 | in1 | out0 | out1 | out2 | out3
  | index (n : WordIndex)
  deriving DecidableEq, Repr

/-- `widx(NAME)` (R22, R68). -/
def RegName.widx : RegName → WordIndex
  | .cmd => 0#4
  | .status => 1#4
  | .in0 => 2#4
  | .in1 => 3#4
  | .out0 => 4#4
  | .out1 => 5#4
  | .out2 => 6#4
  | .out3 => 7#4
  | .index n => n

/-- A line of host-access assembly: a statement of R68 or a pseudo-instruction of R69. -/
inductive AsmLine where
  | wr (name : RegName) (imm : Word)
  | cmd (i : Instr)
  | rd (name : RegName)
  | crc8 (v : Half)
  | verify (v : Half) (c : Byte)
  | step (acc b : Byte)
  | decode (b0 b1 b2 b3 b4 b5 : Byte)
  | serial (b0 b1 b2 b3 b4 b5 : Byte)
  | convT (raw : Half)
  | convRh (raw : Half)
  | convQ88 (hi lo : Byte)
  deriving DecidableEq, Repr

/-- The access of `wr NAME, imm32` (R68). -/
def asmWr (name : RegName) (imm : Word) : HostMove :=
  .write name.widx imm

/-- The access of `cmd MNEMONIC` (R68). -/
def asmCmd (i : Instr) : HostMove :=
  .write 0#4 (encode i)

/-- The access of `rd NAME` (R68). -/
def asmRd (name : RegName) : HostMove :=
  .read name.widx

/-- The accesses a line stands for: one for a statement (R68), the exact expansion for a pseudo-instruction (R69). -/
def AsmLine.expand : AsmLine → List HostMove
  | .wr name imm => [asmWr name imm]
  | .cmd i => [asmCmd i]
  | .rd name => [asmRd name]
  | .crc8 v => [asmWr .in0 (zext32 v), asmCmd .crcCompute]
  | .verify v c => [asmWr .in0 (zext32 v), asmWr .in1 (zext32 c), asmCmd .crcVerify]
  | .step acc b => [asmWr .in0 (zext32 acc), asmWr .in1 (zext32 b), asmCmd .crcStep]
  | .decode b0 b1 b2 b3 b4 b5 =>
      [asmWr .in0 (packField b0 b1 b2), asmWr .in1 (packField b3 b4 b5), asmCmd .decodeMeas]
  | .serial b0 b1 b2 b3 b4 b5 =>
      [asmWr .in0 (packField b0 b1 b2), asmWr .in1 (packField b3 b4 b5), asmCmd .decodeSerial]
  | .convT raw => [asmWr .in0 (zext32 raw), asmCmd .convT]
  | .convRh raw => [asmWr .in0 (zext32 raw), asmCmd .convRh]
  | .convQ88 hi lo => [asmWr .in0 (0x0000#16 ++ hi ++ lo), asmCmd .convQ88]

/-- The accesses of a whole text, in order (R68). -/
def assemble (lines : List AsmLine) : List HostMove :=
  lines.flatMap AsmLine.expand

/-- A hexadecimal digit, in capitals. -/
def hexDigit (d : BitVec 4) : Char :=
  Char.ofNat (if d.toNat < 10 then 48 + d.toNat else 55 + d.toNat)

/-- A word as 8 hexadecimal digits (R68). -/
def hex8 (w : Word) : List Char :=
  [hexDigit (w.extractLsb' 28 4), hexDigit (w.extractLsb' 24 4), hexDigit (w.extractLsb' 20 4),
    hexDigit (w.extractLsb' 16 4), hexDigit (w.extractLsb' 12 4), hexDigit (w.extractLsb' 8 4),
    hexDigit (w.extractLsb' 4 4), hexDigit (w.extractLsb' 0 4)]

/-- A word index in decimal (R68). -/
def decimalIndex (n : WordIndex) : List Char :=
  if n.toNat < 10 then [Char.ofNat (48 + n.toNat)] else ['1', Char.ofNat (38 + n.toNat)]

/-- An access as R68 lists it: `W widx data` or `R widx`. A signal and a bridge access are not accesses of the port and have no listing. -/
def HostMove.listing : HostMove → Option (List Char)
  | .read widx => some (['R', ' '] ++ decimalIndex widx)
  | .write widx data => some (['W', ' '] ++ decimalIndex widx ++ [' '] ++ hex8 data)
  | .signal _ => none
  | .bridgeRead _ _ => none
  | .bridgeWrite _ _ _ => none

end Sys2Proof.Machine
end

