-- ==== Sys2Proof/Safety.lean ====
section
/-! DEFINITION. What a good state and a safe step are, in the terms the statements use. -/

namespace Sys2Proof.Machine

/-- R24: the only values STATUS can hold. -/
def State.statusLegal (s : State) : Bool :=
  [0x0#32, 0x1#32, 0x2#32, 0x4#32, 0x6#32, 0x8#32].contains s.status

/-- Every result register is 0. -/
def State.outsZero (s : State) : Bool :=
  s.out0 == 0#32 && s.out1 == 0#32 && s.out2 == 0#32 && s.out3 == 0#32

/-- STATUS reports a checksum failure (R24). -/
def State.crcFailed (s : State) : Bool :=
  crc0ErrFlag s.status || crc1ErrFlag s.status

/-- R106, R162: while STATUS reports a checksum failure, or no command has been performed since reset, the result registers are 0. -/
def State.noPartialResult (s : State) : Bool :=
  !(s.crcFailed || s.status == 0#32) || s.outsZero

/-- R21: the host's index is a place in its list or the end of it. -/
def State.positionInList (s : State) : Bool :=
  decide (s.position ≤ s.program.length)

/-- The invariant every step keeps. -/
def State.inv (s : State) : Bool :=
  s.statusLegal && s.noPartialResult && s.positionInList

/-- The seven registers of two states are equal; the host's side may differ. -/
def State.sameRegisters (s t : State) : Prop :=
  t.status = s.status ∧ t.in0 = s.in0 ∧ t.in1 = s.in1 ∧
    t.out0 = s.out0 ∧ t.out1 = s.out1 ∧ t.out2 = s.out2 ∧ t.out3 = s.out3

/-- The results a command leaves, STATUS and OUT0 to OUT3, are equal in two states. -/
def State.sameResults (s t : State) : Prop :=
  t.status = s.status ∧ t.out0 = s.out0 ∧ t.out1 = s.out1 ∧ t.out2 = s.out2 ∧ t.out3 = s.out3

/-- The host's list, its place in it and what it got back are equal in two states. -/
def State.sameHost (s t : State) : Prop :=
  t.program = s.program ∧ t.position = s.position ∧ t.received = s.received

/-- The accesses of the host port itself: a read or a write (R43). -/
def HostMove.atPort : HostMove → Bool
  | .read _ => true
  | .write _ _ => true
  | .signal _ => false
  | .bridgeRead _ _ => false
  | .bridgeWrite _ _ _ => false

/-- A step that answers a next state: it neither faults nor is refused. -/
def safeStep (s : State) : Prop :=
  ∃ t, step s = .next t

/-- The operand bits of R62 that a command reads are equal in two states; every other bit of IN0 and IN1 may differ. -/
def operandsAgree (i : Instr) (s t : State) : Prop :=
  match i with
  | .crcCompute => t.in0.extractLsb' 0 16 = s.in0.extractLsb' 0 16
  | .crcVerify =>
      t.in0.extractLsb' 0 16 = s.in0.extractLsb' 0 16 ∧ t.in1.extractLsb' 0 8 = s.in1.extractLsb' 0 8
  | .crcStep =>
      t.in0.extractLsb' 0 8 = s.in0.extractLsb' 0 8 ∧ t.in1.extractLsb' 0 8 = s.in1.extractLsb' 0 8
  | .decodeMeas =>
      t.in0.extractLsb' 0 24 = s.in0.extractLsb' 0 24 ∧ t.in1.extractLsb' 0 24 = s.in1.extractLsb' 0 24
  | .decodeSerial =>
      t.in0.extractLsb' 0 24 = s.in0.extractLsb' 0 24 ∧ t.in1.extractLsb' 0 24 = s.in1.extractLsb' 0 24
  | .convT => t.in0.extractLsb' 0 16 = s.in0.extractLsb' 0 16
  | .convRh => t.in0.extractLsb' 0 16 = s.in0.extractLsb' 0 16
  | .convQ88 => t.in0.extractLsb' 0 16 = s.in0.extractLsb' 0 16

/-- One outcome after another: a fault or a refusal ends the sequence. -/
def andThen (o : Host.Outcome State Fault Refusal) (f : State → Host.Outcome State Fault Refusal) :
    Host.Outcome State Fault Refusal :=
  match o with
  | .next s => f s
  | .fault r => .fault r
  | .refused r => .refused r

/-- One byte of the host's streaming CRC (R93): it writes the byte to IN1, gives CRC_STEP, reads OUT0 and copies it into IN0. -/
def streamByte (b : Byte) (s : State) : Host.Outcome State Fault Refusal :=
  andThen (perform (.write 3#4 (zext32 b)) s) fun s1 =>
    andThen (perform (.write 0#4 (encode .crcStep)) s1) fun s2 =>
      andThen (perform (.read 4#4) s2) fun s3 =>
        perform (.write 2#4 (s2.readWord 4#4)) s3

/-- The host's streaming CRC over a byte string (R93). -/
def streamBytes : List Byte → State → Host.Outcome State Fault Refusal
  | [], s => .next s
  | b :: bs, s => andThen (streamByte b s) (streamBytes bs)

end Sys2Proof.Machine
end

