-- ==== Sys2Proof/Certificates/Slice0/Obligations.lean ====
section
/-! DEFINITION. The statements for the provers, in the order of the spec's files. Each docstring names the rule it formalises; its words stand in OBLIGATIONS.json. -/

open Sys2Proof Sys2Proof.Machine

/-! ### Encoding and decoding (30_encoding.md) -/

/-- R61: a few listed words, written out bit by bit from the opcode map, decode to the commands they stand for. -/
def Obligations.ListedWordsDecode : Prop :=
  decode 0b00000000000000000000000000000001#32 = .ok .crcCompute ∧
  decode 0b00000000000000000000000000000011#32 = .ok .crcStep ∧
  decode 0b00000000000000000000000000010000#32 = .ok .decodeMeas ∧
  decode 0b00000000000000000000000000010001#32 = .ok .decodeSerial ∧
  decode 0b00000000000000000000000000100000#32 = .ok .convT ∧
  decode 0b00000000000000000000000000100010#32 = .ok .convQ88

/-- R61: decode and encode agree in both directions on every 32-bit word, and the legal words are exactly the eight of the opcode map. -/
def Obligations.DecodeAcceptsExactlyTheEncodings : Prop :=
  (∀ w i, decode w = .ok i ↔ w = encode i) ∧
  (∀ w, legalWord w = true ↔ ∃ i, decode w = .ok i) ∧
  (∀ w, legalWord w = true ↔
    w ∈ [0x00000001#32, 0x00000002#32, 0x00000003#32, 0x00000010#32, 0x00000011#32,
      0x00000020#32, 0x00000021#32, 0x00000022#32]) ∧
  encode .crcCompute = 0x00000001#32 ∧ encode .crcVerify = 0x00000002#32 ∧ encode .crcStep = 0x00000003#32 ∧
  encode .decodeMeas = 0x00000010#32 ∧ encode .decodeSerial = 0x00000011#32 ∧
  encode .convT = 0x00000020#32 ∧ encode .convRh = 0x00000021#32 ∧ encode .convQ88 = 0x00000022#32

/-- R64, R142: which words are illegal, by which check, and that an illegal word writes STATUS = 8 and nothing else. -/
def Obligations.IllegalWordsWriteOnlyStatus : Prop :=
  ∀ w : Word,
    (decode w = .error .reservedNotZero ↔ w.extractLsb' 8 24 ≠ 0#24) ∧
    (decode w = .error .unlistedOpcode ↔
      w.extractLsb' 8 24 = 0#24 ∧
        ((w.extractLsb' 0 8).toNat = 0x00 ∨
          (0x04 ≤ (w.extractLsb' 0 8).toNat ∧ (w.extractLsb' 0 8).toNat ≤ 0x0F) ∨
          (0x12 ≤ (w.extractLsb' 0 8).toNat ∧ (w.extractLsb' 0 8).toNat ≤ 0x1F) ∨
          (0x23 ≤ (w.extractLsb' 0 8).toNat ∧ (w.extractLsb' 0 8).toNat ≤ 0xFF))) ∧
    (w.extractLsb' 8 24 ≠ 0#24 ∨
        w.extractLsb' 0 8 ∉ [0x01#8, 0x02#8, 0x03#8, 0x10#8, 0x11#8, 0x20#8, 0x21#8, 0x22#8] →
      ∀ s, execute w s = .next { s with status := 0x00000008#32 })

/-- R67: a CMD write of a command's word runs that command, and a write of any other word is illegal. -/
def Obligations.ExecuteFollowsTheDecoder : Prop :=
  (∀ i s, execute (encode i) s = exec i s) ∧
  (∀ w (s : State), (∀ i, w ≠ encode i) → execute w s = .next { s with status := 0x00000008#32 })

/-- R63: the byte of a frame received first stands in the most significant place of its register, and the two registers' low 24 bits together are the 48-bit big-endian frame. -/
def Obligations.FramePackingIsBigEndian : Prop :=
  ∀ f0 f1 f2 f3 f4 f5 : Byte,
    (packField f0 f1 f2).extractLsb' 16 8 = f0 ∧ (packField f0 f1 f2).extractLsb' 8 8 = f1 ∧
    (packField f0 f1 f2).extractLsb' 0 8 = f2 ∧
    field (packField f0 f1 f2) = (f0 ++ f1, f2) ∧
    (packField f0 f1 f2).extractLsb' 0 24 ++ (packField f3 f4 f5).extractLsb' 0 24 =
      f0 ++ f1 ++ f2 ++ f3 ++ f4 ++ f5

/-- R62: the bits of IN0 and IN1 that a command does not read never matter: not to its results, not to its legality. -/
def Obligations.UnreadOperandBitsAreIgnored : Prop :=
  ∀ i s s', operandsAgree i s s' →
    ∃ t t', execute (encode i) s = .next t ∧ execute (encode i) s' = .next t' ∧
      t.sameResults t' ∧ illegalFlag t.status = false

/-- R69: each pseudo-instruction's exact expansion. -/
def Obligations.PseudoInstructionExpansions : Prop :=
  ∀ (v : Half) (c a b : Byte) (b0 b1 b2 b3 b4 b5 : Byte),
    (AsmLine.crc8 v).expand = [.write 2#4 (v.setWidth 32), .write 0#4 0x01#32] ∧
    (AsmLine.verify v c).expand =
      [.write 2#4 (v.setWidth 32), .write 3#4 (c.setWidth 32), .write 0#4 0x02#32] ∧
    (AsmLine.step a b).expand =
      [.write 2#4 (a.setWidth 32), .write 3#4 (b.setWidth 32), .write 0#4 0x03#32] ∧
    (AsmLine.decode b0 b1 b2 b3 b4 b5).expand =
      [.write 2#4 (0x00#8 ++ b0 ++ b1 ++ b2), .write 3#4 (0x00#8 ++ b3 ++ b4 ++ b5), .write 0#4 0x10#32] ∧
    (AsmLine.serial b0 b1 b2 b3 b4 b5).expand =
      [.write 2#4 (0x00#8 ++ b0 ++ b1 ++ b2), .write 3#4 (0x00#8 ++ b3 ++ b4 ++ b5), .write 0#4 0x11#32] ∧
    (AsmLine.convT v).expand = [.write 2#4 (v.setWidth 32), .write 0#4 0x20#32] ∧
    (AsmLine.convRh v).expand = [.write 2#4 (v.setWidth 32), .write 0#4 0x21#32] ∧
    (AsmLine.convQ88 b0 b1).expand = [.write 2#4 (0x0000#16 ++ b0 ++ b1), .write 0#4 0x22#32]

/-! ### State, host port and step (10_state.md, 20_memory.md) -/

/-- The step runs the decoded command: with a CMD write of a decoding word as the host's next move, the step is exec of the command, the host standing one place further. Any other move is performed in the same way, with no move left nothing changes, what a read gives back goes to the end of `received`, a reset leaves the host's side as it was, and a platform signal other than reset_source changes nothing (R20, R21, R43, R67, R160; the list and its index and the list of words got back are the model's choice of log 1, the idle step that of log 2, the host's side after a reset that of log 5, the other signals that of log 14). -/
def Obligations.StepRunsTheDecodedCommand : Prop :=
  (∀ (s : State) w i, s.program[s.position]? = some (.write 0#4 w) → decode w = .ok i → i.wellFormed = true →
    step s = exec i { s with position := s.position + 1 }) ∧
  (∀ (s : State) m, s.program[s.position]? = some m → step s = perform m { s with position := s.position + 1 }) ∧
  (∀ s : State, s.program[s.position]? = none → step s = .next s) ∧
  (∀ (s : State) widx, perform (.read widx) s = .next { s with received := s.received ++ [s.readWord widx] }) ∧
  (∀ s : State, ∃ t, perform .reset s = .next t ∧ s.sameHost t) ∧
  (∀ (s : State) sig, sig ≠ Config.resetSource → perform (.signal sig) s = .next s)

/-- A placed command word is what the very next step executes, from every state (withFetchWord is the model's choice, log 3). -/
def Obligations.PlacedWordIsExecutedNext : Prop :=
  ∀ (s : State) (nbits w : Nat), ∃ t : State,
    t.sameRegisters s ∧ t.received = s.received ∧
    (∀ k, k ≠ s.position → k < s.program.length → t.program[k]? = s.program[k]?) ∧
    t.position = min s.position s.program.length + 1 ∧
    step (s.withFetchWord nbits w) = execute (BitVec.ofNat 32 (w % 2 ^ nbits)) t

/-- R23: CMD stores nothing. A write performs the command its word encodes, a word with a nonzero RSVD being illegal, and a read gives 0 and has no effect on the block. -/
def Obligations.CmdHasNoStorage : Prop :=
  ∀ (s : State) w,
    (∀ i, decode w = .ok i → perform (.write 0#4 w) s = exec i s) ∧
    (w.extractLsb' 8 24 ≠ 0#24 → perform (.write 0#4 w) s = .next { s with status := 0x00000008#32 }) ∧
    s.readWord 0#4 = 0x00000000#32 ∧ ∃ t, perform (.read 0#4) s = .next t ∧ s.sameRegisters t

/-- R44: what a host read returns at every word index, and that it changes no register. -/
def Obligations.HostReadTable : Prop :=
  ∀ (widx : WordIndex) (s : State),
    (s.readWord widx = if widx = 1#4 then s.status else if widx = 2#4 then s.in0 else if widx = 3#4 then s.in1
        else if widx = 4#4 then s.out0 else if widx = 5#4 then s.out1 else if widx = 6#4 then s.out2
        else if widx = 7#4 then s.out3 else 0x00000000#32) ∧
    ∃ t, perform (.read widx) s = .next t ∧ s.sameRegisters t

/-- R45: what a host write does at every word index. -/
def Obligations.HostWriteTable : Prop :=
  ∀ (widx : WordIndex) (v : Word) (s : State),
    perform (.write widx v) s =
      if widx = 0#4 then execute v s
      else if widx = 2#4 then .next { s with in0 := v }
      else if widx = 3#4 then .next { s with in1 := v }
      else .next s

/-- R29: words 8 to 15 read 0 and ignore writes, and neither changes the block. -/
def Obligations.UnmappedWordsReadZeroIgnoreWrites : Prop :=
  ∀ (widx : WordIndex) (v : Word) (s : State), 8 ≤ widx.toNat →
    s.readWord widx = 0x00000000#32 ∧ (∃ t, perform (.read widx) s = .next t ∧ s.sameRegisters t) ∧
    perform (.write widx v) s = .next s

/-- R46: through a bridge, word widx is at CRCDEC_BASE + 4 * widx, and an access at another address, narrower or wider is refused. That a bridge access is a move of its own is the model's choice (log 4). -/
def Obligations.BridgeReachesWholeWordsOnly : Prop :=
  (∀ (widx : WordIndex) s, perform (.bridgeRead (Config.crcdecBase + 4 * widx.toNat) 4) s = perform (.read widx) s) ∧
  (∀ (widx : WordIndex) v s,
    perform (.bridgeWrite (Config.crcdecBase + 4 * widx.toNat) 4 v) s = perform (.write widx v) s) ∧
  (∀ addr nbytes v s,
    ((∀ widx : WordIndex, addr ≠ Config.crcdecBase + 4 * widx.toNat) ∨ nbytes ≠ 4) →
    ∃ r r', perform (.bridgeRead addr nbytes) s = .refused r ∧ perform (.bridgeWrite addr nbytes v) s = .refused r')

/-- R48: a read has no side effect on the block, a write to IN0 or IN1 only stores its value, and the same command word written twice leaves what it left once. -/
def Obligations.AccessesAreIdempotent : Prop :=
  (∀ widx s, ∃ t, perform (.read widx) s = .next t ∧ s.sameRegisters t) ∧
  (∀ v (s : State), perform (.write 2#4 v) s = .next { s with in0 := v } ∧
    perform (.write 3#4 v) s = .next { s with in1 := v }) ∧
  (∀ w s, ∃ t, perform (.write 0#4 w) s = .next t ∧ perform (.write 0#4 w) t = .next t)

/-- R31, R48: a legal command's results depend on IN0 and IN1 alone: nothing else of the state flows into them. -/
def Obligations.ResultsDependOnlyOnOperands : Prop :=
  ∀ i (s s' : State), s.in0 = s'.in0 → s.in1 = s'.in1 →
    ∃ t t', exec i s = .next t ∧ exec i s' = .next t' ∧ t.sameResults t'

/-- The frame of all eight commands: IN0, IN1 and the host's side are unchanged (R26, R27, R47). The block has no memory, no pc and no other register. -/
def Obligations.CommandsKeepOperandsAndHost : Prop :=
  ∀ i s t, exec i s = .next t → t.in0 = s.in0 ∧ t.in1 = s.in1 ∧ s.sameHost t

/-- R26, R27, R46, R160: over every step, IN0 and IN1 change only by a host write to that word, at the port or through a bridge, or by a reset. The bridge clauses, at CRCDEC_BASE + 8 and CRCDEC_BASE + 12, rest on the model's choice of log 4: a bridge access is a move of its own, its data the word the bridge presents to the port. -/
def Obligations.OnlyTheHostChangesOperands : Prop :=
  ∀ s t, step s = .next t →
    (t.in0 = s.in0 ∨ t.in0 = 0x00000000#32 ∧ s.program[s.position]? = some .reset ∨
      s.program[s.position]? = some (.write 2#4 t.in0) ∨
      s.program[s.position]? = some (.bridgeWrite (Config.crcdecBase + 8) 4 t.in0)) ∧
    (t.in1 = s.in1 ∨ t.in1 = 0x00000000#32 ∧ s.program[s.position]? = some .reset ∨
      s.program[s.position]? = some (.write 3#4 t.in1) ∨
      s.program[s.position]? = some (.bridgeWrite (Config.crcdecBase + 12) 4 t.in1))

/-- R25: every command write replaces the whole of STATUS, which keeps nothing of its earlier value, and no other host access writes it. -/
def Obligations.EveryCommandReplacesStatus : Prop :=
  (∀ w (s : State) v, execute w { s with status := v } = execute w s) ∧
  (∀ widx v s, widx ≠ 0#4 → ∃ t, perform (.write widx v) s = .next t ∧ t.status = s.status) ∧
  (∀ widx s, ∃ t, perform (.read widx) s = .next t ∧ t.status = s.status) ∧
  (∀ v s, perform (.write 1#4 v) s = .next s)

/-- R28, R142, R160: a legal command's outcome does not depend on what OUT0 to OUT3 held (it writes all four), an illegal word writes none of them, no other host access writes them (a write to a word other than CMD, a read), and a reset sets them to 0. -/
def Obligations.LegalCommandsReplaceAllOutputs : Prop :=
  (∀ i (s : State) a b c d, exec i { s with out0 := a, out1 := b, out2 := c, out3 := d } = exec i s) ∧
  (∀ w s, legalWord w = false → ∃ t, execute w s = .next t ∧
    t.out0 = s.out0 ∧ t.out1 = s.out1 ∧ t.out2 = s.out2 ∧ t.out3 = s.out3) ∧
  (∀ widx v s, widx ≠ 0#4 → ∃ t, perform (.write widx v) s = .next t ∧
    t.out0 = s.out0 ∧ t.out1 = s.out1 ∧ t.out2 = s.out2 ∧ t.out3 = s.out3) ∧
  (∀ widx s, ∃ t, perform (.read widx) s = .next t ∧
    t.out0 = s.out0 ∧ t.out1 = s.out1 ∧ t.out2 = s.out2 ∧ t.out3 = s.out3) ∧
  (∀ widx v s, 4 ≤ widx.toNat → widx.toNat ≤ 7 → perform (.write widx v) s = .next s) ∧
  (∀ s, ∃ t, perform .reset s = .next t ∧
    t.out0 = 0x00000000#32 ∧ t.out1 = 0x00000000#32 ∧ t.out2 = 0x00000000#32 ∧ t.out3 = 0x00000000#32)

/-- R33: STATUS after each command outcome; CRC_VERIFY reports its comparison in OUT0 and leaves STATUS = 1 on a match and on a mismatch; no flag is read by any command. -/
def Obligations.StatusAfterEachOutcome : Prop :=
  ∀ s : State,
    (∀ i ∈ [Instr.crcCompute, .crcVerify, .crcStep, .convT, .convRh, .convQ88],
      ∃ t, exec i s = .next t ∧ t.status = 0x00000001#32) ∧
    (∃ t, exec .crcVerify s = .next t ∧ t.status = 0x00000001#32 ∧
      (crc8 (s.in0.extractLsb' 0 16) = s.in1.extractLsb' 0 8 → t.out0 = 0x00000001#32) ∧
      (crc8 (s.in0.extractLsb' 0 16) ≠ s.in1.extractLsb' 0 8 → t.out0 = 0x00000000#32)) ∧
    (∀ i ∈ [Instr.decodeMeas, .decodeSerial], ∃ t, exec i s = .next t ∧
      t.status = match decide (crc8 (s.in0.extractLsb' 8 16) = s.in0.extractLsb' 0 8),
          decide (crc8 (s.in1.extractLsb' 8 16) = s.in1.extractLsb' 0 8) with
        | true, true => 0x00000001#32
        | false, true => 0x00000002#32
        | true, false => 0x00000004#32
        | false, false => 0x00000006#32) ∧
    (∀ w, legalWord w = false → ∃ t, execute w s = .next t ∧ t.status = 0x00000008#32) ∧
    (∀ i v, exec i { s with status := v } = exec i s)

/-- R24, R162: after every command write each STATUS field is set exactly when the rule says, bits 31:4 read 0, and STATUS is one of 1, 2, 4, 6, 8, never 0; at reset it is 0. -/
def Obligations.StatusFieldsOfEveryCommand : Prop :=
  State.reset.status = 0x00000000#32 ∧
  ∀ w s, ∃ t, execute w s = .next t ∧
    (okFlag t.status = true ↔ legalWord w = true ∧
      ((w = 0x10#32 ∨ w = 0x11#32) → fieldValid s.in0 = true ∧ fieldValid s.in1 = true)) ∧
    (crc0ErrFlag t.status = true ↔ (w = 0x10#32 ∨ w = 0x11#32) ∧
      crc8 (s.in0.extractLsb' 8 16) ≠ s.in0.extractLsb' 0 8) ∧
    (crc1ErrFlag t.status = true ↔ (w = 0x10#32 ∨ w = 0x11#32) ∧
      crc8 (s.in1.extractLsb' 8 16) ≠ s.in1.extractLsb' 0 8) ∧
    (illegalFlag t.status = true ↔ legalWord w = false) ∧
    t.status.extractLsb' 4 28 = 0#28 ∧
    t.status ∈ [0x1#32, 0x2#32, 0x4#32, 0x6#32, 0x8#32]

/-- R167, R47: a read immediately after a CMD write returns that command's results. -/
def Obligations.ReadAfterCommandSeesItsResults : Prop :=
  ∀ (s : State) w widx, s.program[s.position]? = some (.write 0#4 w) →
    s.program[s.position + 1]? = some (.read widx) →
    ∃ t u v, execute w s = .next t ∧ step s = .next u ∧ step u = .next v ∧
      t.sameRegisters v ∧ v.received = s.received ++ [t.readWord widx]

/-! ### Checksum family (40_checksum.md) -/

/-- R80, R81: every ROM entry is the generator step f applied eight times to its index. -/
def Obligations.RomIsGeneratedFromThePolynomial : Prop :=
  (∀ x : Byte, crcBitStep x = (x <<< 1) ^^^ (if x.getLsbD 7 then 0x31#8 else 0x00#8)) ∧
  crcInit = 0xFF#8 ∧
  (∀ i : Byte, rom i = crcBitStep (crcBitStep (crcBitStep (crcBitStep
    (crcBitStep (crcBitStep (crcBitStep (crcBitStep i)))))))) ∧
  rom 0x01#8 = 0x31#8 ∧ rom 0x80#8 = 0x7A#8 ∧ rom 0xFF#8 = 0xAC#8

/-- R82, R83: the table step and the CRC of a 16-bit value, high byte first. -/
def Obligations.CrcTakesTheHighByteFirst : Prop :=
  (∀ acc b, crcStep acc b = rom (acc ^^^ b)) ∧
  (∀ v : Half, crc8 v = crcStep (crcStep 0xFF#8 (v.extractLsb' 8 8)) (v.extractLsb' 0 8))

/-- R84: the table-driven CRC is the bit-serial CRC, for every 16-bit value. -/
def Obligations.CrcEqualsBitSerialCrc : Prop :=
  ∀ v : Half, crc8 v = crcBits8 (crcBits8 (0xFF#8 ^^^ v.extractLsb' 8 8) ^^^ v.extractLsb' 0 8)

/-- R85: CRC_COMPUTE completes from every state with these registers, everything else unchanged. -/
def Obligations.CrcComputeResult : Prop :=
  encode .crcCompute = 0x00000001#32 ∧
  (∀ s : State, exec .crcCompute s = .next { s with
    out0 := (crc8 (s.in0.extractLsb' 0 16)).setWidth 32, out1 := 0x00000000#32,
    out2 := 0x00000000#32, out3 := 0x00000000#32, status := 0x00000001#32 }) ∧
  crc8 0xFF00#16 = 0x00#8 ∧ crc8 0x0000#16 = 0x81#8 ∧ crc8 0xFFFF#16 = 0xAC#8 ∧ crc8 0x619C#16 = 0x64#8

/-- R86: CRC_VERIFY completes from every state with these registers, everything else unchanged; a matching pair no longer matches with any one bit flipped. -/
def Obligations.CrcVerifyResult : Prop :=
  encode .crcVerify = 0x00000002#32 ∧
  (∀ s : State, exec .crcVerify s = .next { s with
    out0 := if crc8 (s.in0.extractLsb' 0 16) = s.in1.extractLsb' 0 8 then 0x00000001#32 else 0x00000000#32,
    out1 := (crc8 (s.in0.extractLsb' 0 16)).setWidth 32,
    out2 := 0x00000000#32, out3 := 0x00000000#32, status := 0x00000001#32 }) ∧
  (∀ (v : Half) (e : Byte), crc8 v = e →
    (∀ k < 16, crc8 (v ^^^ (1#16 <<< k)) ≠ e) ∧ (∀ k < 8, crc8 v ≠ e ^^^ (1#8 <<< k))) ∧
  crc8 0x5C3A#16 = 0xCC#8

/-- R87: CRC_STEP completes from every state with these registers, everything else unchanged. -/
def Obligations.CrcStepResult : Prop :=
  encode .crcStep = 0x00000003#32 ∧
  (∀ s : State, exec .crcStep s = .next { s with
    out0 := (rom (s.in0.extractLsb' 0 8 ^^^ s.in1.extractLsb' 0 8)).setWidth 32, out1 := 0x00000000#32,
    out2 := 0x00000000#32, out3 := 0x00000000#32, status := 0x00000001#32 }) ∧
  rom 0x00#8 = 0x00#8 ∧ rom 0x9E#8 = 0x26#8

/-- R88: one flipped bit of the value or of the expected byte is always detected, and CRC_VERIFY of the flipped pair gives OUT0 = 0. -/
def Obligations.SingleBitErrorsAreDetected : Prop :=
  (∀ (v : Half), ∀ k < 16, crc8 (v ^^^ (1#16 <<< k)) ≠ crc8 v) ∧
  (∀ s : State, crc8 (s.in0.extractLsb' 0 16) = s.in1.extractLsb' 0 8 →
    (∃ t, exec .crcVerify s = .next t ∧ t.out0 = 0x00000001#32) ∧
    (∀ k < 16, ∃ t, exec .crcVerify { s with in0 := s.in0 ^^^ (1#32 <<< k) } = .next t ∧
      t.out0 = 0x00000000#32) ∧
    (∀ k < 8, ∃ t, exec .crcVerify { s with in1 := s.in1 ^^^ (1#32 <<< k) } = .next t ∧
      t.out0 = 0x00000000#32))

/-- R89: the CRC is not symmetric in its two bytes. -/
def Obligations.CrcDependsOnByteOrder : Prop :=
  crc8 0x619C#16 = 0x64#8 ∧ crc8 0x9C61#16 = 0xF2#8 ∧ crc8 0x5C3A#16 = 0xCC#8 ∧ crc8 0x3A5C#16 = 0xDE#8

/-- R90: the ROM is a permutation, so the table step is a bijection in each argument. -/
def Obligations.RomIsAPermutation : Prop :=
  Function.Bijective rom ∧
  (∀ acc, Function.Bijective fun b => crcStep acc b) ∧
  (∀ b, Function.Bijective fun acc => crcStep acc b)

/-- R91: the table step over all three bytes of a field gives 0 exactly when the field is valid. -/
def Obligations.ZeroResidueOfValidFields : Prop :=
  rom 0x00#8 = 0x00#8 ∧
  (∀ v : Half, crcStep (crc8 v) (crc8 v) = 0x00#8) ∧
  (∀ w : Word,
    crcStep (crcStep (crcStep 0xFF#8 (w.extractLsb' 16 8)) (w.extractLsb' 8 8)) (w.extractLsb' 0 8) = 0x00#8 ↔
      fieldValid w = true)

/-- R92: which 16-bit values have a zero CRC: one low byte for each high byte. -/
def Obligations.ZeroCrcValues : Prop :=
  crc8 0x0000#16 = 0x81#8 ∧
  (∀ j, rom j = 0x00#8 → j = 0x00#8) ∧
  (∀ v : Half, crc8 v = 0x00#8 ↔ v.extractLsb' 0 8 = rom (0xFF#8 ^^^ v.extractLsb' 8 8)) ∧
  (∀ hi : Byte, ∃! lo : Byte, crc8 (hi ++ lo) = 0x00#8) ∧
  crc8 0x00AC#16 = 0x00#8 ∧ (∀ v : Half, crc8 v = 0x00#8 → 0x00AC ≤ v.toNat) ∧ crc8 0xFF00#16 = 0x00#8

/-- R93: a host that runs CRC_STEP over a byte string, copying OUT0 into IN0 after each step, computes the CRC of the string; for two bytes it is crc8. -/
def Obligations.StreamingComputesTheCrcOfAString : Prop :=
  (∀ (bytes : List Byte) (s : State), s.in0 = 0x000000FF#32 →
    ∃ t, streamBytes bytes s = .next t ∧ t.in0 = (bytes.foldl crcStep 0xFF#8).setWidth 32 ∧
      t.received.length = s.received.length + bytes.length ∧
      (bytes ≠ [] → t.out0 = (bytes.foldl crcStep 0xFF#8).setWidth 32)) ∧
  (∀ v : Half, crcStep (crcStep 0xFF#8 (v.extractLsb' 8 8)) (v.extractLsb' 0 8) = crc8 v)

/-! ### Frame-decode family (41_decode.md) -/

/-- R102: DECODE_MEAS completes from every state: with both fields valid with the two converted quantities and their raw codes, else with DecodeFail; everything else unchanged. -/
def Obligations.DecodeMeasResult : Prop :=
  encode .decodeMeas = 0x00000010#32 ∧
  (∀ s : State, exec .decodeMeas s = .next
    (if crc8 (s.in0.extractLsb' 8 16) = s.in0.extractLsb' 0 8 ∧
        crc8 (s.in1.extractLsb' 8 16) = s.in1.extractLsb' 0 8 then
      { s with
        out0 := BitVec.ofInt 32 (tempMilli (s.in0.extractLsb' 8 16)),
        out1 := BitVec.ofInt 32 (rhMilli (s.in1.extractLsb' 8 16)),
        out2 := (s.in0.extractLsb' 8 16).setWidth 32, out3 := (s.in1.extractLsb' 8 16).setWidth 32,
        status := 0x00000001#32 }
    else
      { s with
        out0 := 0x00000000#32, out1 := 0x00000000#32, out2 := 0x00000000#32, out3 := 0x00000000#32,
        status := (if crc8 (s.in0.extractLsb' 8 16) = s.in0.extractLsb' 0 8 then 0x0#32 else 0x2#32) |||
          (if crc8 (s.in1.extractLsb' 8 16) = s.in1.extractLsb' 0 8 then 0x0#32 else 0x4#32) })) ∧
  (∀ s t : State, exec .decodeMeas s = .next t → t.status = 0x00000001#32 →
    ∃ u, exec .decodeMeas { s with in0 := s.in1, in1 := s.in0 } = .next u ∧ u.status = 0x00000001#32) ∧
  crc8 0x619C#16 = 0x64#8 ∧ crc8 0x5C3A#16 = 0xCC#8 ∧
  BitVec.ofInt 32 (tempMilli 0x619C#16) = 0x000054DE#32 ∧ BitVec.ofInt 32 (rhMilli 0x5C3A#16) = 0x00009879#32 ∧
  BitVec.ofInt 32 (tempMilli 0x0000#16) = 0xFFFF5038#32 ∧
  rhMilli 0x0000#16 < 0 ∧ 100000 < rhMilli 0xFFFF#16

/-- R104: DECODE_SERIAL completes from every state: with both fields valid with the serial number and its halves, else with DecodeFail; everything else unchanged. -/
def Obligations.DecodeSerialResult : Prop :=
  encode .decodeSerial = 0x00000011#32 ∧
  (∀ s : State, exec .decodeSerial s = .next
    (if crc8 (s.in0.extractLsb' 8 16) = s.in0.extractLsb' 0 8 ∧
        crc8 (s.in1.extractLsb' 8 16) = s.in1.extractLsb' 0 8 then
      { s with
        out0 := ((s.in0.extractLsb' 8 16).setWidth 32 <<< 16) ||| (s.in1.extractLsb' 8 16).setWidth 32,
        out1 := (s.in0.extractLsb' 8 16).setWidth 32, out2 := (s.in1.extractLsb' 8 16).setWidth 32,
        out3 := 0x00000000#32, status := 0x00000001#32 }
    else
      { s with
        out0 := 0x00000000#32, out1 := 0x00000000#32, out2 := 0x00000000#32, out3 := 0x00000000#32,
        status := (if crc8 (s.in0.extractLsb' 8 16) = s.in0.extractLsb' 0 8 then 0x0#32 else 0x2#32) |||
          (if crc8 (s.in1.extractLsb' 8 16) = s.in1.extractLsb' 0 8 then 0x0#32 else 0x4#32) })) ∧
  crc8 0xFFFF#16 = 0xAC#8 ∧ crc8 0x0000#16 = 0x81#8 ∧ crc8 0x1234#16 = 0x37#8 ∧ crc8 0x5678#16 = 0x7D#8

/-- R103: the failure outcome of both decode commands. -/
def Obligations.FailedDecodeZeroesTheOutputs : Prop :=
  ∀ i (s : State), (i = .decodeMeas ∨ i = .decodeSerial) →
    ∀ ok0 ok1 : Bool,
      (ok0 = true ↔ crc8 (s.in0.extractLsb' 8 16) = s.in0.extractLsb' 0 8) →
      (ok1 = true ↔ crc8 (s.in1.extractLsb' 8 16) = s.in1.extractLsb' 0 8) →
      (ok0 = false ∨ ok1 = false) →
      exec i s = .next { s with
        out0 := 0x00000000#32, out1 := 0x00000000#32, out2 := 0x00000000#32, out3 := 0x00000000#32,
        status := (if ok0 then 0x00000000#32 else 0x00000002#32) |||
          (if ok1 then 0x00000000#32 else 0x00000004#32) }

/-- R105: both fields are always checked, and STATUS reports each on its own, whatever the other. -/
def Obligations.BothFieldsAreAlwaysChecked : Prop :=
  ∀ i (s : State), (i = .decodeMeas ∨ i = .decodeSerial) →
    ∃ t, exec i s = .next t ∧
      (crc0ErrFlag t.status = true ↔ crc8 (s.in0.extractLsb' 8 16) ≠ s.in0.extractLsb' 0 8) ∧
      (crc1ErrFlag t.status = true ↔ crc8 (s.in1.extractLsb' 8 16) ≠ s.in1.extractLsb' 0 8) ∧
      (crc8 (s.in0.extractLsb' 8 16) ≠ s.in0.extractLsb' 0 8 →
        crc8 (s.in1.extractLsb' 8 16) ≠ s.in1.extractLsb' 0 8 → t.status = 0x00000006#32)

/-- R106: after a decode, STATUS is 1 exactly when both fields are valid, and otherwise OUT0 to OUT3 are all 0. -/
def Obligations.NoPartialResult : Prop :=
  ∀ i (s : State), (i = .decodeMeas ∨ i = .decodeSerial) →
    ∃ t, exec i s = .next t ∧
      (t.status = 0x00000001#32 ↔ fieldValid s.in0 = true ∧ fieldValid s.in1 = true) ∧
      (t.status ≠ 0x00000001#32 →
        t.out0 = 0x00000000#32 ∧ t.out1 = 0x00000000#32 ∧ t.out2 = 0x00000000#32 ∧ t.out3 = 0x00000000#32)

/-- R107: a valid frame with exactly one bit of its six bytes flipped, or with a checksum byte changed in any way, is reported as a checksum error of that field. -/
def Obligations.CorruptFramesAreRejected : Prop :=
  ∀ i (s : State), (i = .decodeMeas ∨ i = .decodeSerial) → fieldValid s.in0 = true → fieldValid s.in1 = true →
    (∀ k < 24, ∃ t, exec i { s with in0 := s.in0 ^^^ (1#32 <<< k) } = .next t ∧
      t.status = 0x00000002#32) ∧
    (∀ k < 24, ∃ t, exec i { s with in1 := s.in1 ^^^ (1#32 <<< k) } = .next t ∧
      t.status = 0x00000004#32) ∧
    (∀ d : Byte, d ≠ 0x00#8 → ∃ t, exec i { s with in0 := s.in0 ^^^ d.setWidth 32 } = .next t ∧
      t.status = 0x00000002#32) ∧
    (∀ d : Byte, d ≠ 0x00#8 → ∃ t, exec i { s with in1 := s.in1 ^^^ d.setWidth 32 } = .next t ∧
      t.status = 0x00000004#32)

/-! ### Conversion family (42_convert.md) -/

/-- R122: CONV_T completes from every state with these registers, everything else unchanged, with the rule's corner values. -/
def Obligations.ConvTResult : Prop :=
  encode .convT = 0x00000020#32 ∧
  (∀ s : State, exec .convT s = .next { s with
    out0 := BitVec.ofInt 32 (-45000 + (175000 * ((s.in0.extractLsb' 0 16).toNat : Int) + 32767) / 65535),
    out1 := BitVec.ofInt 32 (175 * ((s.in0.extractLsb' 0 16).toNat : Int) - 2949075),
    out2 := 0x00000000#32, out3 := 0x00000000#32, status := 0x00000001#32 }) ∧
  toS32 (tempMilli 0x0000#16) = 0xFFFF5038#32 ∧ toS32 (tempNum 0x0000#16) = 0xFFD3002D#32 ∧
  toS32 (tempMilli 0xFFFF#16) = 0x0001FBD0#32 ∧ toS32 (tempNum 0xFFFF#16) = 0x0081FF7E#32 ∧
  toS32 (tempMilli 0x41D4#16) = 0x00000000#32 ∧ toS32 (tempMilli 0x41D3#16) = 0xFFFFFFFE#32 ∧
  tExact 0x41D4#16 = 25 / 65535 ∧
  toS32 (tempMilli 0x6666#16) = 0x000061A8#32 ∧ toS32 (tempNum 0x6666#16) = 0x0018FFE7#32

/-- R125: CONV_RH completes from every state with these registers, everything else unchanged, with the rule's corner values. -/
def Obligations.ConvRhResult : Prop :=
  encode .convRh = 0x00000021#32 ∧
  (∀ s : State, exec .convRh s = .next { s with
    out0 := BitVec.ofInt 32 (-6000 + (125000 * ((s.in0.extractLsb' 0 16).toNat : Int) + 32767) / 65535),
    out1 := BitVec.ofInt 32 (125 * ((s.in0.extractLsb' 0 16).toNat : Int) - 393210),
    out2 := 0x00000000#32, out3 := 0x00000000#32, status := 0x00000001#32 }) ∧
  toS32 (rhMilli 0x0000#16) = 0xFFFFE890#32 ∧ toS32 (rhNum 0x0000#16) = 0xFFFA0006#32 ∧
  toS32 (rhMilli 0xFFFF#16) = 0x0001D0D8#32 ∧ toS32 (rhNum 0xFFFF#16) = 0x0076FF89#32 ∧
  toS32 (rhMilli 0x0C49#16) = 0xFFFFFFFF#32 ∧ toS32 (rhMilli 0x0C4A#16) = 0x00000001#32 ∧
  toS32 (rhMilli 0xD916#16) = 0x000186A1#32 ∧
  toS32 (rhMilli 0x6666#16) = 0x0000ABE0#32 ∧ toS32 (rhNum 0x6666#16) = 0x002BFFD4#32

/-- R128: CONV_Q88 completes from every state with these registers, everything else unchanged, with the rule's corner values. -/
def Obligations.ConvQ88Result : Prop :=
  encode .convQ88 = 0x00000022#32 ∧
  (∀ s : State, exec .convQ88 s = .next { s with
    out0 := BitVec.ofInt 32 ((1000 * (s.in0.extractLsb' 0 16).toInt + 128) / 256),
    out1 := (s.in0.extractLsb' 0 16).signExtend 32,
    out2 := 0x00000000#32, out3 := 0x00000000#32, status := 0x00000001#32 }) ∧
  toS32 (q88Milli 0x8000#16) = 0xFFFE0C00#32 ∧ sext32 0x8000#16 = 0xFFFF8000#32 ∧
  toS32 (q88Milli 0x7FFF#16) = 0x0001F3FC#32 ∧ 1000 * qExact 0x7FFF#16 = 12799609375 / 100000 ∧
  toS32 (q88Milli 0xFFFF#16) = 0xFFFFFFFC#32 ∧ 1000 * qExact 0xFFFF#16 = -390625 / 100000 ∧
  1000 * qExact 0x0010#16 = 125 / 2 ∧ 1000 * qExact 0xFFF0#16 = -125 / 2 ∧ 1000 * qExact 0x0001#16 = 390625 / 100000 ∧
  q88Milli 0x0010#16 = 63 ∧ q88Milli 0xFFF0#16 = -62 ∧ q88Milli 0x0001#16 = 4 ∧
  toS32 (q88Milli 0x1900#16) = 0x000061A8#32 ∧ sext32 0x1900#16 = 0x00001900#32

/-- R7: to_s32 and from_s32 are inverse on the signed 32-bit range, zext_32 keeps the unsigned value, and sext_32 of a 16-bit value keeps its two's-complement value. -/
def Obligations.SignedPatternsRoundTrip : Prop :=
  (∀ i : ℤ, -2 ^ 31 ≤ i → i < 2 ^ 31 → fromS32 (toS32 i) = i ∧ (toS32 i).toNat = i % 2 ^ 32) ∧
  (∀ p : Word, -2 ^ 31 ≤ fromS32 p ∧ fromS32 p < 2 ^ 31 ∧ toS32 (fromS32 p) = p) ∧
  (∀ v : Half, (zext32 v).toNat = v.toNat) ∧
  (∀ v : Half, fromS32 (sext32 v) = if v.getLsbD 15 then (v.toNat : ℤ) - 2 ^ 16 else (v.toNat : ℤ))

/-- R121: the temperature functions: temp_num is exact, and temp_milli is the one integer nearest to 1000 * T_exact. -/
def Obligations.TempMilliIsTheNearestInteger : Prop :=
  ∀ raw : Half,
    tExact raw = -45 + 175 * (raw.toNat : ℚ) / 65535 ∧
    tempNum raw = 175 * (raw.toNat : ℤ) - 2949075 ∧ (tempNum raw : ℚ) = 65535 * tExact raw ∧
    tempMilli raw = -45000 + (175000 * (raw.toNat : ℤ) + 32767) / 65535 ∧
    ∀ m : ℤ, m ≠ tempMilli raw → |(tempMilli raw : ℚ) - 1000 * tExact raw| < |(m : ℚ) - 1000 * tExact raw|

/-- R124: the humidity functions: rh_num is exact, and rh_milli is the one integer nearest to 1000 * RH_exact. -/
def Obligations.RhMilliIsTheNearestInteger : Prop :=
  ∀ raw : Half,
    rhExact raw = -6 + 125 * (raw.toNat : ℚ) / 65535 ∧
    rhNum raw = 125 * (raw.toNat : ℤ) - 393210 ∧ (rhNum raw : ℚ) = 65535 * rhExact raw ∧
    rhMilli raw = -6000 + (125000 * (raw.toNat : ℤ) + 32767) / 65535 ∧
    ∀ m : ℤ, m ≠ rhMilli raw → |(rhMilli raw : ℚ) - 1000 * rhExact raw| < |(m : ℚ) - 1000 * rhExact raw|

/-- R123: the rounding law: no tie, the nearest integer, an error below 1/2, and both functions non-decreasing. -/
def Obligations.RoundingHasNoTies : Prop :=
  (∀ k ∈ [(175000 : ℤ), 125000], ∀ raw : Half,
    (∀ m : ℤ, 2 * k * (raw.toNat : ℤ) ≠ (2 * m + 1) * 65535) ∧
    |(((k * (raw.toNat : ℤ) + 32767) / 65535 : ℤ) : ℚ) - (k : ℚ) * (raw.toNat : ℚ) / 65535| < 1 / 2) ∧
  (∀ raw : Half, |(tempMilli raw : ℚ) - 1000 * tExact raw| < 1 / 2 ∧ |(rhMilli raw : ℚ) - 1000 * rhExact raw| < 1 / 2) ∧
  (∀ a b : Half, a.toNat ≤ b.toNat → tempMilli a ≤ tempMilli b ∧ rhMilli a ≤ rhMilli b)

/-- R127: a Q8.8 code is read as two's complement, and q88_milli rounds 1000 * Q_exact to nearest, ties toward +infinity. -/
def Obligations.Q88MilliRoundsTiesUp : Prop :=
  ∀ raw : Half,
    q88Signed raw = (if raw.toNat < 32768 then (raw.toNat : ℤ) else (raw.toNat : ℤ) - 65536) ∧
    qExact raw = (q88Signed raw : ℚ) / 256 ∧
    q88Milli raw = (1000 * q88Signed raw + 128) / 256 ∧
    q88Milli raw = ⌊1000 * qExact raw + 1 / 2⌋

/-- R129: q88_milli is exact when s is a multiple of 32, never off by more than 1/2, and off by 1/2 exactly when s mod 32 = 16. -/
def Obligations.Q88MilliErrorBound : Prop :=
  ∀ raw : Half,
    ((q88Milli raw : ℚ) = 1000 * qExact raw ↔ q88Signed raw % 32 = 0) ∧
    |(q88Milli raw : ℚ) - 1000 * qExact raw| ≤ 1 / 2 ∧
    (|(q88Milli raw : ℚ) - 1000 * qExact raw| = 1 / 2 ↔ q88Signed raw % 32 = 16) ∧
    (q88Signed raw % 32 = 16 → (q88Milli raw : ℚ) = 1000 * qExact raw + 1 / 2)

/-- R130: the range of every result, each bound attained where the rule says, and to_s32 never wraps. -/
def Obligations.ResultsFitTheirRegisters : Prop :=
  (∀ raw : Half,
    (-45000 ≤ tempMilli raw ∧ tempMilli raw ≤ 130000) ∧ (-2949075 ≤ tempNum raw ∧ tempNum raw ≤ 8519550) ∧
    (-6000 ≤ rhMilli raw ∧ rhMilli raw ≤ 119000) ∧ (-393210 ≤ rhNum raw ∧ rhNum raw ≤ 7798665) ∧
    (-128000 ≤ q88Milli raw ∧ q88Milli raw ≤ 127996) ∧
    (-32768 ≤ fromS32 (sext32 raw) ∧ fromS32 (sext32 raw) ≤ 32767) ∧
    fromS32 (toS32 (tempMilli raw)) = tempMilli raw ∧ fromS32 (toS32 (tempNum raw)) = tempNum raw ∧
    fromS32 (toS32 (rhMilli raw)) = rhMilli raw ∧ fromS32 (toS32 (rhNum raw)) = rhNum raw ∧
    fromS32 (toS32 (q88Milli raw)) = q88Milli raw ∧
    175000 * raw.toNat + 32767 ≤ 11468657767) ∧
  tempMilli 0x0000#16 = -45000 ∧ tempMilli 0xFFFF#16 = 130000 ∧
  tempNum 0x0000#16 = -2949075 ∧ tempNum 0xFFFF#16 = 8519550 ∧
  rhMilli 0x0000#16 = -6000 ∧ rhMilli 0xFFFF#16 = 119000 ∧
  rhNum 0x0000#16 = -393210 ∧ rhNum 0xFFFF#16 = 7798665 ∧
  q88Milli 0x8000#16 = -128000 ∧ q88Milli 0x7FFF#16 = 127996 ∧
  fromS32 (sext32 0x8000#16) = -32768 ∧ fromS32 (sext32 0x7FFF#16) = 32767 ∧
  175000 * 65535 + 32767 = 11468657767 ∧ 2 ^ 33 ≤ 11468657767 ∧ 11468657767 < 2 ^ 34

/-- R126: no command clamps: CONV_RH and DECODE_MEAS return rh_milli for every raw code, below 0 and above 100000 included, and temperature is not clamped either. -/
def Obligations.ConversionsAreNotClamped : Prop :=
  (∀ s, ∃ t, exec .convRh s = .next t ∧ fromS32 t.out0 = rhMilli (s.in0.extractLsb' 0 16)) ∧
  (∀ s, ∃ t, exec .convT s = .next t ∧ fromS32 t.out0 = tempMilli (s.in0.extractLsb' 0 16)) ∧
  (∀ s, fieldValid s.in0 = true → fieldValid s.in1 = true → ∃ t, exec .decodeMeas s = .next t ∧
    fromS32 t.out0 = tempMilli (s.in0.extractLsb' 8 16) ∧ fromS32 t.out1 = rhMilli (s.in1.extractLsb' 8 16)) ∧
  (∀ raw, -6000 ≤ rhMilli raw ∧ rhMilli raw ≤ 119000) ∧
  rhMilli 0x0000#16 = -6000 ∧ rhMilli 0xFFFF#16 = 119000

/-- R131: the source's boundary values in fixed point. -/
def Obligations.BoundaryValuesAreExact : Prop :=
  tempMilli 0x0000#16 = -45000 ∧ tempMilli 0xFFFF#16 = 130000 ∧
  rhMilli 0x0000#16 = -6000 ∧ rhMilli 0xFFFF#16 = 119000

/-! ### Errors, reset and invariants (60_exceptions.md, 70_reset_and_hazards.md) -/

/-- R140: the block never stops: every read and write of the port, every command and every reset completes, and no read or write changes the host's list or its place in it (the control flow is the host's own). What a reset leaves of the host's side is not said here (log 5). -/
def Obligations.EveryHostAccessCompletes : Prop :=
  (∀ i s, ∃ t, exec i s = .next t) ∧ (∀ w s, ∃ t, execute w s = .next t) ∧
  (∀ m s, m.atPort = true → ∃ t, perform m s = .next t ∧ t.program = s.program ∧ t.position = s.position) ∧
  (∀ s, ∃ t, perform .reset s = .next t) ∧
  (∀ (s : State) m, s.program[s.position]? = some m → (m.atPort = true ∨ m = .reset) → safeStep s)

/-- R141: the three error outcomes: when each STATUS bit is raised, and what is recorded. -/
def Obligations.ErrorOutcomesAndTheirRecords : Prop :=
  ∀ w s, ∃ t, execute w s = .next t ∧ t.in0 = s.in0 ∧ t.in1 = s.in1 ∧
    (t.status.getLsbD 1 = true ↔ (w = encode .decodeMeas ∨ w = encode .decodeSerial) ∧
      crc8 (s.in0.extractLsb' 8 16) ≠ s.in0.extractLsb' 0 8) ∧
    (t.status.getLsbD 2 = true ↔ (w = encode .decodeMeas ∨ w = encode .decodeSerial) ∧
      crc8 (s.in1.extractLsb' 8 16) ≠ s.in1.extractLsb' 0 8) ∧
    (t.status.getLsbD 1 = true ∨ t.status.getLsbD 2 = true →
      t.out0 = 0x00000000#32 ∧ t.out1 = 0x00000000#32 ∧ t.out2 = 0x00000000#32 ∧ t.out3 = 0x00000000#32) ∧
    (t.status.getLsbD 3 = true ↔ legalWord w = false) ∧
    (t.status.getLsbD 3 = true → t = { s with status := 0x00000008#32 })

/-- R145: legality is checked first, the two field checks combine in one STATUS value, and ILLEGAL is never combined with a checksum error. -/
def Obligations.LegalityIsCheckedFirst : Prop :=
  (∀ w (s : State) a b, legalWord w = false →
    execute w { s with in0 := a, in1 := b } = .next { s with in0 := a, in1 := b, status := 0x00000008#32 }) ∧
  (∀ i s t, (i = .decodeMeas ∨ i = .decodeSerial) → exec i s = .next t →
    t.status = 0x1#32 ∨ t.status = 0x2#32 ∨ t.status = 0x4#32 ∨ t.status = 0x6#32) ∧
  (∀ w s t, execute w s = .next t → illegalFlag t.status = true →
    crc0ErrFlag t.status = false ∧ crc1ErrFlag t.status = false)

/-- R34, R160: every register is 0x00000000 after reset, as the initial state and as a separate step between host accesses, where the platform asserts reset_source (whichever signal that is, R5), and the host's reads of the initial state give 0. -/
def Obligations.ResetClearsEveryRegister : Prop :=
  (State.reset.status = 0x00000000#32 ∧ State.reset.in0 = 0x00000000#32 ∧ State.reset.in1 = 0x00000000#32 ∧
    State.reset.out0 = 0x00000000#32 ∧ State.reset.out1 = 0x00000000#32 ∧ State.reset.out2 = 0x00000000#32 ∧
    State.reset.out3 = 0x00000000#32) ∧
  (∀ s : State, ∃ t, perform (.signal Config.resetSource) s = .next t ∧
    t.status = 0x00000000#32 ∧ t.in0 = 0x00000000#32 ∧ t.in1 = 0x00000000#32 ∧
    t.out0 = 0x00000000#32 ∧ t.out1 = 0x00000000#32 ∧ t.out2 = 0x00000000#32 ∧ t.out3 = 0x00000000#32) ∧
  (∀ widx, State.reset.readWord widx = 0x00000000#32)

/-- R163: a command started with the operands left from reset uses 0: DECODE_MEAS reports both fields. -/
def Obligations.ResetOperandsFailTheDecode : Prop :=
  ∃ t, execute 0x00000010#32 State.reset = .next t ∧ t.status = 0x00000006#32

/-- The invariant holds at reset: STATUS is a legal value, 0, and OUT0 to OUT3 are 0 (R24, R34, R106, R162), and the host's index stays in its list (R21). The host's list and its index are the representation of log 1, and that the list is empty and the index 0 at reset is the model's choice of log 3. -/
def Obligations.InvariantHoldsAtReset : Prop :=
  State.reset.inv = true

/-- Every step keeps the invariant: STATUS is one of its six legal values (R24), OUT0 to OUT3 are 0 while STATUS reports a checksum failure or no command since reset (R106, R162), and the host's index stays in its list (R21; the list and its index are the representation of log 1). -/
def Obligations.EveryStepKeepsTheInvariant : Prop :=
  ∀ s t, s.inv = true → step s = .next t → t.inv = true
end

