-- ==== Sys2Proof/Laws/Decode.lean ====
section
/-! SUPPORT. Small lemmas of the decoder and the encoder. -/

namespace Sys2Proof

theorem decodeOpcode_opcode (i : Instr) : decodeOpcode (opcode i) = some i := by
  cases i <;> rfl

/-- An opcode byte selects a command only as its own opcode. -/
theorem opcode_of_decodeOpcode {op : Byte} {i : Instr} (h : decodeOpcode op = some i) : op = opcode i := by
  revert h
  unfold decodeOpcode
  split <;> intro h <;> cases h <;> rfl

/-- Everything an accepting decode says about the word (R61, R67). -/
theorem decode_ok {w : Word} {i : Instr} (h : decode w = .ok i) :
    w.extractLsb' 8 24 = 0#24 ∧ w.extractLsb' 0 8 = opcode i := by
  unfold decode at h
  split at h
  · cases h
  · rename_i hr
    split at h
    · rename_i j hj
      cases h
      exact ⟨not_not.mp hr, opcode_of_decodeOpcode hj⟩
    · cases h

/-- Everything a rejecting decode says about the word (R64, R67). -/
theorem decode_error {w : Word} {e : DecodeError} (h : decode w = .error e) :
    (e = .reservedNotZero ∧ w.extractLsb' 8 24 ≠ 0#24) ∨
      (e = .unlistedOpcode ∧ w.extractLsb' 8 24 = 0#24 ∧ decodeOpcode (w.extractLsb' 0 8) = none) := by
  unfold decode at h
  split at h
  · rename_i hr
    cases h
    exact .inl ⟨rfl, hr⟩
  · rename_i hr
    split at h
    · cases h
    · rename_i hn
      cases h
      exact .inr ⟨rfl, not_not.mp hr, hn⟩

end Sys2Proof
end

