-- ==== Sys2Proof/Laws/State.lean ====
section
/-! SUPPORT. One lemma per field and state update, so that no proof unfolds a record update. -/

namespace Sys2Proof.Machine

@[simp] theorem State.writeStatus_status (v : Word) (s : State) :
    (s.writeStatus v).status = v := rfl

@[simp] theorem State.writeStatus_in0 (v : Word) (s : State) :
    (s.writeStatus v).in0 = s.in0 := rfl

@[simp] theorem State.writeStatus_in1 (v : Word) (s : State) :
    (s.writeStatus v).in1 = s.in1 := rfl

@[simp] theorem State.writeStatus_out0 (v : Word) (s : State) :
    (s.writeStatus v).out0 = s.out0 := rfl

@[simp] theorem State.writeStatus_out1 (v : Word) (s : State) :
    (s.writeStatus v).out1 = s.out1 := rfl

@[simp] theorem State.writeStatus_out2 (v : Word) (s : State) :
    (s.writeStatus v).out2 = s.out2 := rfl

@[simp] theorem State.writeStatus_out3 (v : Word) (s : State) :
    (s.writeStatus v).out3 = s.out3 := rfl

@[simp] theorem State.writeStatus_program (v : Word) (s : State) :
    (s.writeStatus v).program = s.program := rfl

@[simp] theorem State.writeStatus_position (v : Word) (s : State) :
    (s.writeStatus v).position = s.position := rfl

@[simp] theorem State.writeStatus_received (v : Word) (s : State) :
    (s.writeStatus v).received = s.received := rfl

@[simp] theorem State.writeIn0_status (v : Word) (s : State) :
    (s.writeIn0 v).status = s.status := rfl

@[simp] theorem State.writeIn0_in0 (v : Word) (s : State) :
    (s.writeIn0 v).in0 = v := rfl

@[simp] theorem State.writeIn0_in1 (v : Word) (s : State) :
    (s.writeIn0 v).in1 = s.in1 := rfl

@[simp] theorem State.writeIn0_out0 (v : Word) (s : State) :
    (s.writeIn0 v).out0 = s.out0 := rfl

@[simp] theorem State.writeIn0_out1 (v : Word) (s : State) :
    (s.writeIn0 v).out1 = s.out1 := rfl

@[simp] theorem State.writeIn0_out2 (v : Word) (s : State) :
    (s.writeIn0 v).out2 = s.out2 := rfl

@[simp] theorem State.writeIn0_out3 (v : Word) (s : State) :
    (s.writeIn0 v).out3 = s.out3 := rfl

@[simp] theorem State.writeIn0_program (v : Word) (s : State) :
    (s.writeIn0 v).program = s.program := rfl

@[simp] theorem State.writeIn0_position (v : Word) (s : State) :
    (s.writeIn0 v).position = s.position := rfl

@[simp] theorem State.writeIn0_received (v : Word) (s : State) :
    (s.writeIn0 v).received = s.received := rfl

@[simp] theorem State.writeIn1_status (v : Word) (s : State) :
    (s.writeIn1 v).status = s.status := rfl

@[simp] theorem State.writeIn1_in0 (v : Word) (s : State) :
    (s.writeIn1 v).in0 = s.in0 := rfl

@[simp] theorem State.writeIn1_in1 (v : Word) (s : State) :
    (s.writeIn1 v).in1 = v := rfl

@[simp] theorem State.writeIn1_out0 (v : Word) (s : State) :
    (s.writeIn1 v).out0 = s.out0 := rfl

@[simp] theorem State.writeIn1_out1 (v : Word) (s : State) :
    (s.writeIn1 v).out1 = s.out1 := rfl

@[simp] theorem State.writeIn1_out2 (v : Word) (s : State) :
    (s.writeIn1 v).out2 = s.out2 := rfl

@[simp] theorem State.writeIn1_out3 (v : Word) (s : State) :
    (s.writeIn1 v).out3 = s.out3 := rfl

@[simp] theorem State.writeIn1_program (v : Word) (s : State) :
    (s.writeIn1 v).program = s.program := rfl

@[simp] theorem State.writeIn1_position (v : Word) (s : State) :
    (s.writeIn1 v).position = s.position := rfl

@[simp] theorem State.writeIn1_received (v : Word) (s : State) :
    (s.writeIn1 v).received = s.received := rfl

@[simp] theorem State.writeOuts_status (a b c d : Word) (s : State) :
    (s.writeOuts a b c d).status = s.status := rfl

@[simp] theorem State.writeOuts_in0 (a b c d : Word) (s : State) :
    (s.writeOuts a b c d).in0 = s.in0 := rfl

@[simp] theorem State.writeOuts_in1 (a b c d : Word) (s : State) :
    (s.writeOuts a b c d).in1 = s.in1 := rfl

@[simp] theorem State.writeOuts_out0 (a b c d : Word) (s : State) :
    (s.writeOuts a b c d).out0 = a := rfl

@[simp] theorem State.writeOuts_out1 (a b c d : Word) (s : State) :
    (s.writeOuts a b c d).out1 = b := rfl

@[simp] theorem State.writeOuts_out2 (a b c d : Word) (s : State) :
    (s.writeOuts a b c d).out2 = c := rfl

@[simp] theorem State.writeOuts_out3 (a b c d : Word) (s : State) :
    (s.writeOuts a b c d).out3 = d := rfl

@[simp] theorem State.writeOuts_program (a b c d : Word) (s : State) :
    (s.writeOuts a b c d).program = s.program := rfl

@[simp] theorem State.writeOuts_position (a b c d : Word) (s : State) :
    (s.writeOuts a b c d).position = s.position := rfl

@[simp] theorem State.writeOuts_received (a b c d : Word) (s : State) :
    (s.writeOuts a b c d).received = s.received := rfl

@[simp] theorem State.complete_status (a b c d : Word) (s : State) :
    (s.complete a b c d).status = statusOk := rfl

@[simp] theorem State.complete_in0 (a b c d : Word) (s : State) :
    (s.complete a b c d).in0 = s.in0 := rfl

@[simp] theorem State.complete_in1 (a b c d : Word) (s : State) :
    (s.complete a b c d).in1 = s.in1 := rfl

@[simp] theorem State.complete_out0 (a b c d : Word) (s : State) :
    (s.complete a b c d).out0 = a := rfl

@[simp] theorem State.complete_out1 (a b c d : Word) (s : State) :
    (s.complete a b c d).out1 = b := rfl

@[simp] theorem State.complete_out2 (a b c d : Word) (s : State) :
    (s.complete a b c d).out2 = c := rfl

@[simp] theorem State.complete_out3 (a b c d : Word) (s : State) :
    (s.complete a b c d).out3 = d := rfl

@[simp] theorem State.complete_program (a b c d : Word) (s : State) :
    (s.complete a b c d).program = s.program := rfl

@[simp] theorem State.complete_position (a b c d : Word) (s : State) :
    (s.complete a b c d).position = s.position := rfl

@[simp] theorem State.complete_received (a b c d : Word) (s : State) :
    (s.complete a b c d).received = s.received := rfl

@[simp] theorem State.decodeFail_status (p q : Bool) (s : State) :
    (s.decodeFail p q).status = statusDecodeFail p q := rfl

@[simp] theorem State.decodeFail_in0 (p q : Bool) (s : State) :
    (s.decodeFail p q).in0 = s.in0 := rfl

@[simp] theorem State.decodeFail_in1 (p q : Bool) (s : State) :
    (s.decodeFail p q).in1 = s.in1 := rfl

@[simp] theorem State.decodeFail_out0 (p q : Bool) (s : State) :
    (s.decodeFail p q).out0 = 0#32 := rfl

@[simp] theorem State.decodeFail_out1 (p q : Bool) (s : State) :
    (s.decodeFail p q).out1 = 0#32 := rfl

@[simp] theorem State.decodeFail_out2 (p q : Bool) (s : State) :
    (s.decodeFail p q).out2 = 0#32 := rfl

@[simp] theorem State.decodeFail_out3 (p q : Bool) (s : State) :
    (s.decodeFail p q).out3 = 0#32 := rfl

@[simp] theorem State.decodeFail_program (p q : Bool) (s : State) :
    (s.decodeFail p q).program = s.program := rfl

@[simp] theorem State.decodeFail_position (p q : Bool) (s : State) :
    (s.decodeFail p q).position = s.position := rfl

@[simp] theorem State.decodeFail_received (p q : Bool) (s : State) :
    (s.decodeFail p q).received = s.received := rfl

@[simp] theorem State.illegalCommand_status (s : State) :
    (s.illegalCommand).status = statusIllegal := rfl

@[simp] theorem State.illegalCommand_in0 (s : State) :
    (s.illegalCommand).in0 = s.in0 := rfl

@[simp] theorem State.illegalCommand_in1 (s : State) :
    (s.illegalCommand).in1 = s.in1 := rfl

@[simp] theorem State.illegalCommand_out0 (s : State) :
    (s.illegalCommand).out0 = s.out0 := rfl

@[simp] theorem State.illegalCommand_out1 (s : State) :
    (s.illegalCommand).out1 = s.out1 := rfl

@[simp] theorem State.illegalCommand_out2 (s : State) :
    (s.illegalCommand).out2 = s.out2 := rfl

@[simp] theorem State.illegalCommand_out3 (s : State) :
    (s.illegalCommand).out3 = s.out3 := rfl

@[simp] theorem State.illegalCommand_program (s : State) :
    (s.illegalCommand).program = s.program := rfl

@[simp] theorem State.illegalCommand_position (s : State) :
    (s.illegalCommand).position = s.position := rfl

@[simp] theorem State.illegalCommand_received (s : State) :
    (s.illegalCommand).received = s.received := rfl

@[simp] theorem State.resetRegisters_status (s : State) :
    (s.resetRegisters).status = 0#32 := rfl

@[simp] theorem State.resetRegisters_in0 (s : State) :
    (s.resetRegisters).in0 = 0#32 := rfl

@[simp] theorem State.resetRegisters_in1 (s : State) :
    (s.resetRegisters).in1 = 0#32 := rfl

@[simp] theorem State.resetRegisters_out0 (s : State) :
    (s.resetRegisters).out0 = 0#32 := rfl

@[simp] theorem State.resetRegisters_out1 (s : State) :
    (s.resetRegisters).out1 = 0#32 := rfl

@[simp] theorem State.resetRegisters_out2 (s : State) :
    (s.resetRegisters).out2 = 0#32 := rfl

@[simp] theorem State.resetRegisters_out3 (s : State) :
    (s.resetRegisters).out3 = 0#32 := rfl

@[simp] theorem State.resetRegisters_program (s : State) :
    (s.resetRegisters).program = s.program := rfl

@[simp] theorem State.resetRegisters_position (s : State) :
    (s.resetRegisters).position = s.position := rfl

@[simp] theorem State.resetRegisters_received (s : State) :
    (s.resetRegisters).received = s.received := rfl

@[simp] theorem State.advance_status (s : State) :
    (s.advance).status = s.status := rfl

@[simp] theorem State.advance_in0 (s : State) :
    (s.advance).in0 = s.in0 := rfl

@[simp] theorem State.advance_in1 (s : State) :
    (s.advance).in1 = s.in1 := rfl

@[simp] theorem State.advance_out0 (s : State) :
    (s.advance).out0 = s.out0 := rfl

@[simp] theorem State.advance_out1 (s : State) :
    (s.advance).out1 = s.out1 := rfl

@[simp] theorem State.advance_out2 (s : State) :
    (s.advance).out2 = s.out2 := rfl

@[simp] theorem State.advance_out3 (s : State) :
    (s.advance).out3 = s.out3 := rfl

@[simp] theorem State.advance_program (s : State) :
    (s.advance).program = s.program := rfl

@[simp] theorem State.advance_position (s : State) :
    (s.advance).position = s.position + 1 := rfl

@[simp] theorem State.advance_received (s : State) :
    (s.advance).received = s.received := rfl

@[simp] theorem State.receive_status (v : Word) (s : State) :
    (s.receive v).status = s.status := rfl

@[simp] theorem State.receive_in0 (v : Word) (s : State) :
    (s.receive v).in0 = s.in0 := rfl

@[simp] theorem State.receive_in1 (v : Word) (s : State) :
    (s.receive v).in1 = s.in1 := rfl

@[simp] theorem State.receive_out0 (v : Word) (s : State) :
    (s.receive v).out0 = s.out0 := rfl

@[simp] theorem State.receive_out1 (v : Word) (s : State) :
    (s.receive v).out1 = s.out1 := rfl

@[simp] theorem State.receive_out2 (v : Word) (s : State) :
    (s.receive v).out2 = s.out2 := rfl

@[simp] theorem State.receive_out3 (v : Word) (s : State) :
    (s.receive v).out3 = s.out3 := rfl

@[simp] theorem State.receive_program (v : Word) (s : State) :
    (s.receive v).program = s.program := rfl

@[simp] theorem State.receive_position (v : Word) (s : State) :
    (s.receive v).position = s.position := rfl

@[simp] theorem State.receive_received (v : Word) (s : State) :
    (s.receive v).received = s.received ++ [v] := rfl

/-- Asserting `reset_source` is the reset action (R160). -/
@[simp] theorem State.takeSignal_resetSource (s : State) :
    s.takeSignal Config.resetSource = s.resetRegisters := if_pos rfl

/-- A signal other than `reset_source` does nothing to the block (log 14). -/
theorem State.takeSignal_of_ne {sig : Signal} (h : sig ≠ Config.resetSource) (s : State) :
    s.takeSignal sig = s := if_neg h

/-- Everything a signal can do. -/
theorem State.takeSignal_cases (sig : Signal) (s : State) :
    (sig = Config.resetSource ∧ s.takeSignal sig = s.resetRegisters) ∨
      (sig ≠ Config.resetSource ∧ s.takeSignal sig = s) := by
  by_cases h : sig = Config.resetSource
  · exact .inl ⟨h, if_pos h⟩
  · exact .inr ⟨h, State.takeSignal_of_ne h s⟩

end Sys2Proof.Machine
end

