-- ==== Sys2Proof/Laws/Ops.lean ====
section
/-! SUPPORT. What each shared operation and each command can do, said once. -/

namespace Sys2Proof.Machine

/-- A decode with both fields valid completes with its results (R102, R104). -/
theorem State.decodeFrame_of_valid {s : State} (h0 : fieldValid s.in0 = true) (h1 : fieldValid s.in1 = true)
    (a b c d : Word) : s.decodeFrame a b c d = s.complete a b c d := by
  simp [State.decodeFrame, h0, h1]

/-- A decode with an invalid field fails as a whole (R103). -/
theorem State.decodeFrame_of_invalid {s : State} (h : fieldValid s.in0 = false ∨ fieldValid s.in1 = false)
    (a b c d : Word) :
    s.decodeFrame a b c d = s.decodeFail (fieldValid s.in0) (fieldValid s.in1) := by
  rcases h with h | h <;> simp [State.decodeFrame, h]

/-- A field is valid when its CRC is its checksum byte (R101). -/
theorem fieldValid_iff (w : Word) :
    fieldValid w = true ↔ crc8 (w.extractLsb' 8 16) = w.extractLsb' 0 8 := by
  simp [fieldValid, field]

/-- Everything a decode command can do. -/
theorem State.decodeFrame_cases (a b c d : Word) (s : State) :
    (fieldValid s.in0 = true ∧ fieldValid s.in1 = true ∧ s.decodeFrame a b c d = s.complete a b c d) ∨
      ((fieldValid s.in0 = false ∨ fieldValid s.in1 = false) ∧
        s.decodeFrame a b c d = s.decodeFail (fieldValid s.in0) (fieldValid s.in1)) := by
  cases h0 : fieldValid s.in0 <;> cases h1 : fieldValid s.in1
  · exact .inr ⟨.inl rfl, by rw [State.decodeFrame_of_invalid (.inl h0), h0, h1]⟩
  · exact .inr ⟨.inl rfl, by rw [State.decodeFrame_of_invalid (.inl h0), h0, h1]⟩
  · exact .inr ⟨.inr rfl, by rw [State.decodeFrame_of_invalid (.inr h1), h0, h1]⟩
  · exact .inl ⟨rfl, rfl, State.decodeFrame_of_valid h0 h1 a b c d⟩

/-- Everything a command can do: it completes with four results, or it is a decode of a frame with an invalid field. -/
theorem exec_cases {i : Instr} {s t : State} (h : exec i s = .next t) :
    (∃ a b c d, t = s.complete a b c d) ∨
      ((i = .decodeMeas ∨ i = .decodeSerial) ∧ (fieldValid s.in0 = false ∨ fieldValid s.in1 = false) ∧
        t = s.decodeFail (fieldValid s.in0) (fieldValid s.in1)) := by
  cases i <;> cases h
  case decodeMeas =>
    rcases State.decodeFrame_cases (toS32 (tempMilli (field s.in0).1)) (toS32 (rhMilli (field s.in1).1))
      (zext32 (field s.in0).1) (zext32 (field s.in1).1) s with ⟨-, -, h⟩ | ⟨hv, h⟩
    · exact .inl ⟨_, _, _, _, h⟩
    · exact .inr ⟨.inl rfl, hv, h⟩
  case decodeSerial =>
    rcases State.decodeFrame_cases ((field s.in0).1 ++ (field s.in1).1)
      (zext32 (field s.in0).1) (zext32 (field s.in1).1) 0#32 s with ⟨-, -, h⟩ | ⟨hv, h⟩
    · exact .inl ⟨_, _, _, _, h⟩
    · exact .inr ⟨.inr rfl, hv, h⟩
  all_goals exact .inl ⟨_, _, _, _, rfl⟩

end Sys2Proof.Machine
end

