-- ==== Sys2Proof/Laws/PerInstr.lean ====
section
/-! SUPPORT. The per-instruction family RoundTrip: a command's word has RSVD = 0 and decodes back to it (R60, R61, R67). -/

namespace Sys2Proof.Laws.RoundTrip

/-- A well-formed command encodes to a legal word that decodes to the same command. -/
def Statement (i : Instr) : Prop :=
  i.wellFormed = true → decode (encode i) = .ok i ∧ legalWord (encode i) = true

theorem crcCompute : Statement .crcCompute := fun _ => ⟨rfl, rfl⟩

theorem crcVerify : Statement .crcVerify := fun _ => ⟨rfl, rfl⟩

theorem crcStep : Statement .crcStep := fun _ => ⟨rfl, rfl⟩

theorem decodeMeas : Statement .decodeMeas := fun _ => ⟨rfl, rfl⟩

theorem decodeSerial : Statement .decodeSerial := fun _ => ⟨rfl, rfl⟩

theorem convT : Statement .convT := fun _ => ⟨rfl, rfl⟩

theorem convRh : Statement .convRh := fun _ => ⟨rfl, rfl⟩

theorem convQ88 : Statement .convQ88 := fun _ => ⟨rfl, rfl⟩

end Sys2Proof.Laws.RoundTrip
end

