-- ==== Sys2Proof/Laws/Port.lean ====
section
/-! SUPPORT. What the host port and the step can do, said once. -/

namespace Sys2Proof.Machine

theorem execute_of_ok {w : Word} {i : Instr} (h : decode w = .ok i) (s : State) : execute w s = exec i s := by
  simp [execute, h]

theorem execute_of_error {w : Word} {e : DecodeError} (h : decode w = .error e) (s : State) :
    execute w s = .next s.illegalCommand := by
  simp [execute, h]

/-- Everything a CMD write can do (R67). -/
theorem execute_cases {w : Word} {s t : State} (h : execute w s = .next t) :
    (∃ i, decode w = .ok i ∧ exec i s = .next t) ∨ (∃ e, decode w = .error e ∧ t = s.illegalCommand) := by
  cases hd : decode w with
  | ok i => exact .inl ⟨i, rfl, by rw [← h, execute_of_ok hd]⟩
  | error e =>
    rw [execute_of_error hd] at h
    cases h
    exact .inr ⟨e, rfl, rfl⟩

/-- Everything a write of the host port can do (R45). -/
theorem hostWrite_cases {widx : WordIndex} {v : Word} {s t : State} (h : hostWrite widx v s = .next t) :
    (widx = 0#4 ∧ execute v s = .next t) ∨ (widx = 2#4 ∧ t = s.writeIn0 v) ∨ (widx = 3#4 ∧ t = s.writeIn1 v) ∨
      ((widx ≠ 0#4 ∧ widx ≠ 2#4 ∧ widx ≠ 3#4) ∧ t = s) := by
  unfold hostWrite at h
  split at h
  · exact .inl ⟨rfl, h⟩
  · cases h
    exact .inr (.inl ⟨rfl, rfl⟩)
  · cases h
    exact .inr (.inr (.inl ⟨rfl, rfl⟩))
  · rename_i h0 h2 h3
    cases h
    exact .inr (.inr (.inr ⟨⟨h0, h2, h3⟩, rfl⟩))

/-- A bridge access that answers a next state performed the access of its word (R46). -/
theorem bridgeAccess_next {addr nbytes : Nat} {f : WordIndex → Host.Outcome State Fault Refusal} {t : State}
    (h : bridgeAccess addr nbytes f = .next t) :
    ∃ widx, bridgeIndex addr = some widx ∧ nbytes = 4 ∧ f widx = .next t := by
  unfold bridgeAccess at h
  split at h
  · cases h
  · rename_i widx hw
    split at h
    · exact ⟨widx, hw, ‹_›, h⟩
    · cases h

/-- The reset move is the reset action (R160). -/
theorem perform_reset (s : State) : perform .reset s = .next s.resetRegisters := by
  simp [perform, HostMove.reset]

/-- Everything a move of the host can do: it is a read or a write, at the port itself or through a bridge, the reset, or a signal that is not the block's. -/
theorem perform_cases {m : HostMove} {s t : State} (h : perform m s = .next t) :
    (∃ widx, t = s.receive (s.readWord widx)) ∨ (∃ widx v, hostWrite widx v s = .next t) ∨
      (m = .reset ∧ t = s.resetRegisters) ∨ t = s := by
  cases m with
  | read widx => cases h; exact .inl ⟨widx, rfl⟩
  | write widx v => exact .inr (.inl ⟨widx, v, h⟩)
  | signal sig =>
    cases h
    rcases State.takeSignal_cases sig s with ⟨rfl, h⟩ | ⟨-, h⟩
    · exact .inr (.inr (.inl ⟨rfl, h⟩))
    · exact .inr (.inr (.inr h))
  | bridgeRead addr nbytes =>
    obtain ⟨widx, -, -, h⟩ := bridgeAccess_next h
    cases h
    exact .inl ⟨widx, rfl⟩
  | bridgeWrite addr nbytes v =>
    obtain ⟨widx, -, -, h⟩ := bridgeAccess_next h
    exact .inr (.inl ⟨widx, v, h⟩)

/-- A step with a move left performs it, the host standing past it. -/
theorem step_of_nextMove {s : State} {m : HostMove} (h : s.nextMove = some m) : step s = perform m s.advance := by
  simp [step, hostStep, h]

/-- A step with no move left changes nothing (R20). -/
theorem step_of_noMove {s : State} (h : s.nextMove = none) : step s = .next s := by
  simp [step, hostStep, h]

/-- Everything a step can do. -/
theorem step_cases {s t : State} (h : step s = .next t) :
    (s.nextMove = none ∧ t = s) ∨ (∃ m, s.nextMove = some m ∧ perform m s.advance = .next t) := by
  cases hm : s.nextMove with
  | none =>
    rw [step_of_noMove hm] at h
    cases h
    exact .inl ⟨rfl, rfl⟩
  | some m => exact .inr ⟨m, rfl, by rw [← h, step_of_nextMove hm]⟩

/-- A move left is a place in the host's list. -/
theorem position_lt_of_nextMove {s : State} {m : HostMove} (h : s.nextMove = some m) :
    s.position < s.program.length :=
  (List.getElem?_eq_some_iff.mp h).1

end Sys2Proof.Machine
end

