-- ==== Sys2Proof/Tests/Slice0.lean ====
section
/-! SUPPORT. Tests: expected results are the spec's words, examples and vectors (95_test_vectors.md), named in each docstring; and, for every statement with hypotheses, a witness that meets them. -/

namespace Sys2Proof.Tests

open Sys2Proof Sys2Proof.Machine

/-- The state after reset with two operands written. -/
def withOperands (a b : Word) : State :=
  { State.reset with in0 := a, in1 := b }

/-- The state after reset with the host's moves. -/
def withMoves (ms : List HostMove) : State :=
  { State.reset with program := ms }

/-- STATUS, OUT0, OUT1, OUT2, OUT3 of a next state. -/
def resultsOf : Host.Outcome State Fault Refusal → Option (List Word)
  | .next t => some [t.status, t.out0, t.out1, t.out2, t.out3]
  | .fault _ => none
  | .refused _ => none

/-- What the host got back in a next state. -/
def receivedOf : Host.Outcome State Fault Refusal → Option (List Word)
  | .next t => some t.received
  | .fault _ => none
  | .refused _ => none

/-! ### WellFormed: an ill-formed word for each check (R64) -/

theorem test_rsvd_check_refuses : rsvdIsZero 0x00000101#32 = false ∧ legalWord 0x00000101#32 = false := by decide

theorem test_opcode_check_refuses :
    opcodeIsListed 0x00000004#32 = false ∧ legalWord 0x00000004#32 = false ∧ legalWord 0x00000000#32 = false := by decide

theorem test_listed_words_are_legal : legalWord 0x00000001#32 = true ∧ legalWord 0x00000022#32 = true := by decide

/-! ### Decoding: every command's word, written out bit by bit from R60 and R61 -/

theorem test_decode_crcCompute : decode 0b00000000000000000000000000000001#32 = .ok .crcCompute := by decide

theorem test_decode_crcVerify : decode 0b00000000000000000000000000000010#32 = .ok .crcVerify := by decide

theorem test_decode_crcStep : decode 0b00000000000000000000000000000011#32 = .ok .crcStep := by decide

theorem test_decode_decodeMeas : decode 0b00000000000000000000000000010000#32 = .ok .decodeMeas := by decide

theorem test_decode_decodeSerial : decode 0b00000000000000000000000000010001#32 = .ok .decodeSerial := by decide

theorem test_decode_convT : decode 0b00000000000000000000000000100000#32 = .ok .convT := by decide

theorem test_decode_convRh : decode 0b00000000000000000000000000100001#32 = .ok .convRh := by decide

theorem test_decode_convQ88 : decode 0b00000000000000000000000000100010#32 = .ok .convQ88 := by decide

theorem test_decode_rejects_by_name :
    decode 0x80000001#32 = .error .reservedNotZero ∧ decode 0x00000012#32 = .error .unlistedOpcode := by decide

theorem test_decodeTableWord : decodeTableWord 32 0x11 = some .decodeSerial ∧ decodeTableWord 32 0x04 = none := by decide

/-! ### Commands: two vectors each -/

/-- V-C2. -/
theorem test_crcCompute_frame_value :
    resultsOf (exec .crcCompute (withOperands 0x0000619C 0)) = some [0x1, 0x64, 0, 0, 0] := by decide

/-- V-C7: IN0[31:16] is ignored. -/
theorem test_crcCompute_upper_bits :
    resultsOf (exec .crcCompute (withOperands 0xFFFF619C 0xFFFFFFFF)) = some [0x1, 0x64, 0, 0, 0] := by decide

/-- V-V5: IN1[31:8] is ignored. -/
theorem test_crcVerify_match :
    resultsOf (exec .crcVerify (withOperands 0x0000619C 0xABCDEF64)) = some [0x1, 0x1, 0x64, 0, 0] := by decide

/-- V-V2: a mismatch is still STATUS OK. -/
theorem test_crcVerify_mismatch :
    resultsOf (exec .crcVerify (withOperands 0x00005C3A 0x000000CD)) = some [0x1, 0x0, 0xCC, 0, 0] := by decide

/-- V-S1. -/
theorem test_crcStep_entry :
    resultsOf (exec .crcStep (withOperands 0x000000FF 0x00000061)) = some [0x1, 0x26, 0, 0, 0] := by decide

/-- V-S6: IN0[31:8] and IN1[31:8] are ignored. -/
theorem test_crcStep_upper_bits :
    resultsOf (exec .crcStep (withOperands 0x000001FF 0x00000100)) = some [0x1, 0xAC, 0, 0, 0] := by decide

/-- V-D6. -/
theorem test_decodeMeas_valid :
    resultsOf (exec .decodeMeas (withOperands 0xFF619C64 0xAB5C3ACC)) =
      some [0x1, 0x000054DE, 0x00009879, 0x0000619C, 0x00005C3A] := by decide

/-- V-D3: a valid temperature with a corrupt humidity fails as a whole. -/
theorem test_decodeMeas_corrupt :
    resultsOf (exec .decodeMeas (withOperands 0x00619C64 0x005C3ACD)) = some [0x4, 0, 0, 0, 0] := by decide

/-- V-E1. -/
theorem test_decodeSerial_valid :
    resultsOf (exec .decodeSerial (withOperands 0x00123437 0x0056787D)) =
      some [0x1, 0x12345678, 0x1234, 0x5678, 0] := by decide

/-- V-E7: both fields are reported. -/
theorem test_decodeSerial_corrupt :
    resultsOf (exec .decodeSerial (withOperands 0x00619D64 0x005C3BCC)) = some [0x6, 0, 0, 0, 0] := by decide

/-- V-T1: a negative result. -/
theorem test_convT_lower_end :
    resultsOf (exec .convT (withOperands 0xFFFF0000 0)) = some [0x1, 0xFFFF5038, 0xFFD3002D, 0, 0] := by decide

/-- V-T7: just below 0 °C. -/
theorem test_convT_below_zero :
    resultsOf (exec .convT (withOperands 0x000041D3 0)) = some [0x1, 0xFFFFFFFE, 0xFFFFFF6A, 0, 0] := by decide

/-- V-H3: below 0 %RH, not clamped. -/
theorem test_convRh_not_clamped_low :
    resultsOf (exec .convRh (withOperands 0x00000C49 0)) = some [0x1, 0xFFFFFFFF, 0xFFFFFFAB, 0, 0] := by decide

/-- V-H7: above 100 %RH, not clamped. -/
theorem test_convRh_not_clamped_high :
    resultsOf (exec .convRh (withOperands 0x0000D916 0)) = some [0x1, 0x000186A1, 0x0063FFC4, 0, 0] := by decide

/-- V-Q7: a tie below zero goes toward +infinity. -/
theorem test_convQ88_tie :
    resultsOf (exec .convQ88 (withOperands 0x0000FFF0 0)) = some [0x1, 0xFFFFFFC2, 0xFFFFFFF0, 0, 0] := by decide

/-- V-Q10: the most negative code. -/
theorem test_convQ88_most_negative :
    resultsOf (exec .convQ88 (withOperands 0x00008000 0)) = some [0x1, 0xFFFE0C00, 0xFFFF8000, 0, 0] := by decide

/-! ### Host port, step, assembly -/

/-- V-X3: a nonzero RSVD is illegal and keeps OUT0. -/
theorem test_illegal_word_keeps_outputs :
    resultsOf (execute 0x00000101#32 { withOperands 0xBEEF 0 with status := 0x1, out0 := 0x92 }) =
      some [0x8, 0x92, 0, 0, 0] := by decide

/-- V-X7, V-X10: CMD and an unmapped word read 0. -/
theorem test_read_cmd_and_unmapped :
    receivedOf (step (withMoves [.read 0])) = some [0] ∧ receivedOf (step (withMoves [.read 9])) = some [0] := by decide

/-- V-X8, V-X9: STATUS and OUT0 ignore writes. -/
theorem test_read_only_words :
    resultsOf (step (withMoves [.write 1 0xFFFFFFFF])) = some [0, 0, 0, 0, 0] ∧
      resultsOf (step (withMoves [.write 4 0xDEADBEEF])) = some [0, 0, 0, 0, 0] := by decide

/-- R160: a reset between accesses clears the registers and keeps the host's place. -/
theorem test_reset_move :
    step { withMoves [.reset] with status := 0x8, in0 := 0x1, out3 := 0x2 } =
      .next { withMoves [.reset] with position := 1 } := by
  rw [step_of_nextMove rfl, perform_reset]
  rfl

/-- R66, R67: a placed command word is run by the next step, here CONV_T on the reset operands (R163, V-T1). -/
theorem test_step_runs_placed_word :
    resultsOf (step (State.reset.withFetchWord 32 0x20)) = some [0x1, 0xFFFF5038, 0xFFD3002D, 0, 0] := by decide

/-- R46: a half-word access through a bridge is refused. -/
theorem test_bridge_refuses_half_word :
    perform (.bridgeRead Config.crcdecBase 2) State.reset = .refused .bridgeWidth := by
  simp [perform, bridgeAccess, bridgeIndex]

/-- R46: word 2 stands at CRCDEC_BASE + 8. -/
theorem test_bridge_reaches_in0 :
    perform (.bridgeWrite (Config.crcdecBase + 8) 4 0xCAFEF00D) State.reset =
      .next { State.reset with in0 := 0xCAFEF00D } := by
  simp [perform, bridgeAccess, bridgeIndex, hostWrite, State.writeIn0]

/-- R68: the first lines of program P1 and their listing. -/
theorem test_listing_of_P1 :
    (assemble [.wr .in0 0x0000BEEF, .cmd .crcCompute, .rd .status]).map HostMove.listing =
      [some ['W', ' ', '2', ' ', '0', '0', '0', '0', 'B', 'E', 'E', 'F'],
        some ['W', ' ', '0', ' ', '0', '0', '0', '0', '0', '0', '0', '1'], some ['R', ' ', '1']] := by decide

/-- R69: `decode` of the frame of R102's example packs IN0 = 0x00619C64 and IN1 = 0x005C3ACC. -/
theorem test_pseudo_decode :
    (AsmLine.decode 0x61 0x9C 0x64 0x5C 0x3A 0xCC).expand =
      [.write 2 0x00619C64, .write 3 0x005C3ACC, .write 0 0x00000010] := by decide

/-! ### Witnesses: each statement's hypotheses can be met -/

/-- IllegalWordsWriteOnlyStatus, StatusAfterEachOutcome, LegalCommandsReplaceAllOutputs, LegalityIsCheckedFirst: illegal words at both ends of every range of R64, and one by RSVD. -/
theorem witness_illegal_words :
    ([0x00#32, 0x04#32, 0x0F#32, 0x12#32, 0x1F#32, 0x23#32, 0xFF#32, 0x100#32].map legalWord).all (· == false) ∧
      (0x100#32 : Word).extractLsb' 8 24 ≠ 0#24 ∧
      (0x00#32 : Word).extractLsb' 0 8 ∉ [0x01#8, 0x02#8, 0x03#8, 0x10#8, 0x11#8, 0x20#8, 0x21#8, 0x22#8] := by decide

/-- ExecuteFollowsTheDecoder: a word that is no command's. -/
theorem witness_word_of_no_command : ∀ i, (0x00000000#32 : Word) ≠ encode i := by
  intro i
  cases i <;> decide

/-- UnreadOperandBitsAreIgnored: two different states that agree on what every command reads. -/
theorem witness_operandsAgree (i : Instr) :
    operandsAgree i (withOperands 0x00619C64 0x005C3ACC) (withOperands 0xFF619C64 0xAB5C3ACC) := by
  cases i <;> simp only [operandsAgree] <;> decide

/-- StepRunsTheDecodedCommand: a CMD write of a decoding word, another move, and no move. -/
theorem witness_step :
    (withMoves [.write 0 0x10]).program[(withMoves [.write 0 0x10]).position]? = some (.write 0#4 0x10#32) ∧
      decode 0x10#32 = .ok .decodeMeas ∧ Instr.wellFormed .decodeMeas = true ∧
      (withMoves [.read 7]).program[(withMoves [.read 7]).position]? = some (.read 7) ∧
      State.reset.program[State.reset.position]? = none := by decide

/-- UnmappedWordsReadZeroIgnoreWrites: both ends of the range. -/
theorem witness_unmapped : 8 ≤ (8#4 : WordIndex).toNat ∧ 8 ≤ (15#4 : WordIndex).toNat := by decide

/-- BridgeReachesWholeWordsOnly: an address between two words, one below and one above the window, and a width. -/
theorem witness_bridge :
    (∀ widx : WordIndex, Config.crcdecBase + 1 ≠ Config.crcdecBase + 4 * widx.toNat) ∧
      (∀ widx : WordIndex, Config.crcdecBase + 64 ≠ Config.crcdecBase + 4 * widx.toNat) ∧ (2 ≠ 4) := by
  refine ⟨fun widx => ?_, fun widx => ?_, by decide⟩
  · omega
  · have := widx.isLt
    omega

/-- ResultsDependOnlyOnOperands: two different states with the same operands. -/
theorem witness_same_operands :
    (withOperands 1 2).in0 = ({ withOperands 1 2 with status := 8, out3 := 5 } : State).in0 ∧
      (withOperands 1 2).in1 = ({ withOperands 1 2 with status := 8, out3 := 5 } : State).in1 := by decide

/-- CommandsKeepOperandsAndHost: every command answers a next state. -/
theorem witness_exec_next (i : Instr) : ∃ t, exec i (withOperands 1 2) = .next t := by
  cases i <;> exact ⟨_, rfl⟩

/-- OnlyTheHostChangesOperands: IN0 and IN1 really change by a write and by a reset. -/
theorem witness_operand_changes :
    step (withMoves [.write 2 0xCAFEF00D]) =
        .next { withMoves [.write 2 0xCAFEF00D] with in0 := 0xCAFEF00D, position := 1 } ∧
      step (withMoves [.write 3 0x00000001]) =
        .next { withMoves [.write 3 0x00000001] with in1 := 0x00000001, position := 1 } ∧
      step { withMoves [.reset] with in0 := 7, in1 := 7 } = .next { withMoves [.reset] with position := 1 } := by
  refine ⟨rfl, rfl, ?_⟩
  rw [step_of_nextMove rfl, perform_reset]
  rfl

/-- OnlyTheHostChangesOperands: IN0 changes through a bridge. -/
theorem witness_operand_change_by_bridge :
    step (withMoves [.bridgeWrite (Config.crcdecBase + 8) 4 0x00000005]) =
      .next { withMoves [.bridgeWrite (Config.crcdecBase + 8) 4 0x00000005] with in0 := 0x00000005, position := 1 } := by
  simp [step, hostStep, State.nextMove, withMoves, perform, bridgeAccess, bridgeIndex, hostWrite, State.writeIn0,
    State.advance, State.reset]

/-- EveryCommandReplacesStatus, LegalCommandsReplaceAllOutputs: word indices other than CMD, and both ends of OUT0 to OUT3. -/
theorem witness_other_words :
    (1#4 : WordIndex) ≠ 0#4 ∧ (15#4 : WordIndex) ≠ 0#4 ∧
      (4 ≤ (4#4 : WordIndex).toNat ∧ (4#4 : WordIndex).toNat ≤ 7) ∧
      (4 ≤ (7#4 : WordIndex).toNat ∧ (7#4 : WordIndex).toNat ≤ 7) := by decide

/-- ReadAfterCommandSeesItsResults: a command write followed by a read. -/
theorem witness_command_then_read :
    (withMoves [.write 0 0x10, .read 1]).program[(withMoves [.write 0 0x10, .read 1]).position]? =
        some (.write 0#4 0x10#32) ∧
      (withMoves [.write 0 0x10, .read 1]).program[(withMoves [.write 0 0x10, .read 1]).position + 1]? =
        some (.read 1#4) := by decide

/-- CrcVerifyResult, SingleBitErrorsAreDetected, StatusAfterEachOutcome: a matching pair, the first and last bit positions, and a pair that does not match (V-V4). -/
theorem witness_matching_pair :
    crc8 ((withOperands 0x0000BEEF 0x00000092).in0.extractLsb' 0 16) =
        (withOperands 0x0000BEEF 0x00000092).in1.extractLsb' 0 8 ∧
      crc8 ((withOperands 0x0000BEEF 0x00000093).in0.extractLsb' 0 16) ≠
        (withOperands 0x0000BEEF 0x00000093).in1.extractLsb' 0 8 ∧
      crc8 0xBEEF#16 = 0x92#8 ∧ (0 < 16 ∧ 15 < 16) ∧ (0 < 8 ∧ 7 < 8) := by decide

/-- ZeroCrcValues: the smallest value with a zero CRC, and a ROM entry that is 0. -/
theorem witness_zero_crc : crc8 0x00AC#16 = 0x00#8 ∧ rom 0x00#8 = 0x00#8 := by decide

/-- StreamingComputesTheCrcOfAString: the accumulator's initial value in IN0, and a string that is not empty. -/
theorem witness_stream_start :
    (withOperands 0x000000FF 0).in0 = 0x000000FF#32 ∧ ([0x31#8, 0x32#8] : List Byte) ≠ [] := by decide

/-- DecodeMeasResult: a decode that completes with STATUS OK. -/
theorem witness_valid_decode :
    ∃ t, exec .decodeMeas (withOperands 0x00619C64 0x005C3ACC) = .next t ∧ t.status = 0x00000001#32 :=
  ⟨_, rfl, by decide⟩

/-- FailedDecodeZeroesTheOutputs: field 0 valid and field 1 not (V-D3); field 1 valid and field 0 not (V-D2); neither (V-D10). -/
theorem witness_failed_decode :
    (fieldValid 0x00619C64#32 = true ∧ fieldValid 0x005C3ACD#32 = false) ∧
      (fieldValid 0x00619C65#32 = false ∧ fieldValid 0x005C3ACC#32 = true) ∧ fieldValid 0x00000000#32 = false ∧
      (true = true ↔ crc8 ((withOperands 0x00619C64 0x005C3ACD).in0.extractLsb' 8 16) =
        (withOperands 0x00619C64 0x005C3ACD).in0.extractLsb' 0 8) ∧
      (false = true ↔ crc8 ((withOperands 0x00619C64 0x005C3ACD).in1.extractLsb' 8 16) =
        (withOperands 0x00619C64 0x005C3ACD).in1.extractLsb' 0 8) := by decide

/-- BothFieldsAreAlwaysChecked, NoPartialResult, ErrorOutcomesAndTheirRecords, LegalityIsCheckedFirst: a decode with both fields corrupt (V-D4). -/
theorem witness_both_corrupt :
    resultsOf (execute 0x10#32 (withOperands 0x00619D64 0x005C3BCC)) = some [0x6, 0, 0, 0, 0] ∧
      crc8 ((withOperands 0x00619D64 0x005C3BCC).in0.extractLsb' 8 16) ≠
        (withOperands 0x00619D64 0x005C3BCC).in0.extractLsb' 0 8 ∧
      crc8 ((withOperands 0x00619D64 0x005C3BCC).in1.extractLsb' 8 16) ≠
        (withOperands 0x00619D64 0x005C3BCC).in1.extractLsb' 0 8 := by decide

/-- CorruptFramesAreRejected, ConversionsAreNotClamped: a frame valid in both fields, a bit of each end, and a change of a checksum byte. -/
theorem witness_valid_frame :
    fieldValid (withOperands 0x00619C64 0x005C3ACC).in0 = true ∧
      fieldValid (withOperands 0x00619C64 0x005C3ACC).in1 = true ∧ (0 < 24 ∧ 23 < 24) ∧ 0x01#8 ≠ 0x00#8 := by decide

/-- SignedPatternsRoundTrip: both ends of the signed range. -/
theorem witness_signed_range :
    (-2 ^ 31 ≤ (-2147483648 : ℤ) ∧ (-2147483648 : ℤ) < 2 ^ 31) ∧
      (-2 ^ 31 ≤ (2147483647 : ℤ) ∧ (2147483647 : ℤ) < 2 ^ 31) := by decide

/-- TempMilliIsTheNearestInteger, RhMilliIsTheNearestInteger, RoundingHasNoTies: another integer, an ordered pair of codes, and the two factors. -/
theorem witness_rounding :
    (25001 : ℤ) ≠ tempMilli 0x6666#16 ∧ (44001 : ℤ) ≠ rhMilli 0x6666#16 ∧
      (0x41D3#16 : Half).toNat ≤ (0x41D4#16 : Half).toNat ∧ (175000 : ℤ) ∈ [(175000 : ℤ), 125000] ∧
      (125000 : ℤ) ∈ [(175000 : ℤ), 125000] := by decide

/-- Q88MilliErrorBound: an exact code (V-Q8) and a tie (V-Q6). -/
theorem witness_q88 : q88Signed 0x0080#16 % 32 = 0 ∧ q88Signed 0x0010#16 % 32 = 16 := by decide

/-- StepRunsTheDecodedCommand: a platform signal that is not the block's reset. -/
theorem witness_other_signal : Config.resetSource + 1 ≠ Config.resetSource :=
  Nat.succ_ne_self _

/-- EveryHostAccessCompletes: both kinds of access at the port, and states whose next move is one, and is the reset. -/
theorem witness_port_moves :
    (HostMove.read 1).atPort = true ∧ (HostMove.write 0 0x04).atPort = true ∧
      (withMoves [.write 0 0x04]).program[(withMoves [.write 0 0x04]).position]? = some (.write 0 0x04) ∧
      (withMoves [.reset]).program[(withMoves [.reset]).position]? = some .reset :=
  ⟨rfl, rfl, rfl, rfl⟩

/-- LegalityIsCheckedFirst: an illegal word sets ILLEGAL. -/
theorem witness_illegal_flag :
    ∃ t, execute 0x04#32 (withOperands 0 0) = .next t ∧ illegalFlag t.status = true :=
  ⟨_, rfl, by decide⟩

/-- EveryStepKeepsTheInvariant: a state that meets it with a failed decode's STATUS, and its step. -/
theorem witness_invariant_step :
    ({ withMoves [.write 0 0x20] with status := 0x6 } : State).inv = true ∧
      resultsOf (step { withMoves [.write 0 0x20] with status := 0x6 }) =
        some [0x1, 0xFFFF5038, 0xFFD3002D, 0, 0] := by decide

end Sys2Proof.Tests
end

section
/-! R7: signed 32-bit patterns and the two extensions of 16-bit values. -/

namespace Sys2Proof.Machine

/-- `to_s32` and then `from_s32` gives back every integer of the signed 32-bit range (R7). -/
theorem fromS32_toS32 {i : ℤ} (hlo : -2 ^ 31 ≤ i) (hhi : i < 2 ^ 31) : fromS32 (toS32 i) = i :=
  BitVec.toInt_ofInt_eq_self (by decide) hlo hhi

/-- The pattern of `i` is `i mod 2^32` (R7). -/
theorem toNat_toS32 (i : ℤ) : ((toS32 i).toNat : ℤ) = i % 2 ^ 32 := by
  have hnonneg : 0 ≤ i % 2 ^ 32 := Int.emod_nonneg i (by decide)
  rw [toS32, BitVec.toNat_ofInt]
  exact Int.toNat_of_nonneg hnonneg

@[simp] theorem toS32_fromS32 (p : Word) : toS32 (fromS32 p) = p :=
  BitVec.ofInt_toInt

theorem neg_two_pow_le_fromS32 (p : Word) : -2 ^ 31 ≤ fromS32 p :=
  BitVec.le_toInt p

theorem fromS32_lt_two_pow (p : Word) : fromS32 p < 2 ^ 31 :=
  BitVec.toInt_lt

/-- `zext_32` of a value of at most 32 bits keeps its unsigned value (R7). -/
theorem toNat_zext32 {n : Nat} (hn : n ≤ 32) (v : BitVec n) : (zext32 v).toNat = v.toNat :=
  BitVec.toNat_setWidth_of_le hn

/-- `sext_32` keeps the two's-complement value of a 16-bit value (R7). -/
theorem fromS32_sext32 (v : Half) : fromS32 (sext32 v) = v.toInt :=
  BitVec.toInt_signExtend_of_le (by decide)

/-- The two's-complement value of a 16-bit value, read at its sign bit (R7). -/
theorem toInt_half (v : Half) :
    v.toInt = if v.getLsbD 15 then (v.toNat : ℤ) - 2 ^ 16 else (v.toNat : ℤ) := by
  rw [BitVec.toInt_eq_msb_cond, BitVec.msb_eq_getLsbD_last]
  rfl

/-- Settles O45: each part of R7 is the rule of the function it speaks of. -/
theorem signedPatternsRoundTrip : Obligations.SignedPatternsRoundTrip :=
  ⟨fun i hlo hhi => ⟨fromS32_toS32 hlo hhi, toNat_toS32 i⟩,
    fun p => ⟨neg_two_pow_le_fromS32 p, fromS32_lt_two_pow p, toS32_fromS32 p⟩,
    toNat_zext32 (by decide),
    fun v => (fromS32_sext32 v).trans (toInt_half v)⟩

end Sys2Proof.Machine
end

section
/-! R61, R64: the legal words are the eight commands' words, and the decoder accepts exactly those. -/

namespace Sys2Proof

/-- The opcode column of R61 lists the opcodes of the eight commands. -/
theorem mem_opcodes_iff (op : Byte) : op ∈ opcodes ↔ ∃ i, op = opcode i := by
  constructor
  · simp only [opcodes, List.mem_cons, List.not_mem_nil, or_false]
    rintro (rfl | rfl | rfl | rfl | rfl | rfl | rfl | rfl)
    exacts [⟨.crcCompute, rfl⟩, ⟨.crcVerify, rfl⟩, ⟨.crcStep, rfl⟩, ⟨.decodeMeas, rfl⟩,
      ⟨.decodeSerial, rfl⟩, ⟨.convT, rfl⟩, ⟨.convRh, rfl⟩, ⟨.convQ88, rfl⟩]
  · rintro ⟨i, rfl⟩
    cases i <;> decide

/-- A word is a command's word when its RSVD is zero and its OP is that command's opcode (R60). -/
theorem eq_encode_iff (w : Word) (i : Instr) :
    w = encode i ↔ w.extractLsb' 8 24 = 0#24 ∧ w.extractLsb' 0 8 = opcode i := by
  constructor
  · rintro rfl
    cases i <;> exact ⟨rfl, rfl⟩
  · rintro ⟨hrsvd, hop⟩
    calc w = w.extractLsb' 8 24 ++ w.extractLsb' 0 8 := by
            rw [BitVec.extractLsb'_append_extractLsb'_eq_extractLsb' (by decide), BitVec.extractLsb'_eq_self]
      _ = encode i := by rw [hrsvd, hop, encode]

theorem decode_encode (i : Instr) : decode (encode i) = .ok i := by
  cases i <;> rfl

/-- The decoder accepts exactly the commands' words (R61, R67). -/
theorem decode_eq_ok_iff (w : Word) (i : Instr) : decode w = .ok i ↔ w = encode i := by
  constructor
  · exact fun h => (eq_encode_iff w i).mpr (decode_ok h)
  · rintro rfl
    exact decode_encode i

theorem encode_injective {i j : Instr} (h : encode i = encode j) : i = j := by
  have hok : Except.ok i = (Except.ok j : Except DecodeError Instr) := by
    rw [← decode_encode i, h, decode_encode j]
  exact Except.ok.inj hok

/-- A word passes the two checks of R64 exactly when it is a command's word. -/
theorem legalWord_iff (w : Word) : legalWord w = true ↔ ∃ i, w = encode i := by
  simp only [legalWord, rsvdIsZero, opcodeIsListed, Bool.and_eq_true, beq_iff_eq, List.contains_iff_mem,
    mem_opcodes_iff, eq_encode_iff, exists_and_left]

@[simp] theorem legalWord_encode (i : Instr) : legalWord (encode i) = true :=
  (legalWord_iff _).mpr ⟨i, rfl⟩

theorem legalWord_of_rsvd_ne_zero {w : Word} (h : w.extractLsb' 8 24 ≠ 0#24) : legalWord w = false := by
  simp [legalWord, rsvdIsZero, h]

end Sys2Proof
end

section
/-! What `exec` and `execute` do to the registers: every command completes, and IN0 and IN1 alone decide what it writes. -/

namespace Sys2Proof.Machine

theorem exec_next (i : Instr) (s : State) : ∃ t, exec i s = .next t := by
  cases i <;> exact ⟨_, rfl⟩

/-- The two decode commands, the only ones that can report a checksum failure (R33). -/
def isDecode (i : Instr) : Prop :=
  i = .decodeMeas ∨ i = .decodeSerial

theorem exec_of_not_isDecode {i : Instr} (h : ¬ isDecode i) (s : State) :
    ∃ a b c d, exec i s = .next (s.complete a b c d) := by
  cases i
  case decodeMeas => exact absurd (.inl rfl) h
  case decodeSerial => exact absurd (.inr rfl) h
  all_goals exact ⟨_, _, _, _, rfl⟩

theorem exec_of_isDecode {i : Instr} (h : isDecode i) (s : State) :
    ∃ a b c d, exec i s = .next (s.decodeFrame a b c d) := by
  rcases h with rfl | rfl <;> exact ⟨_, _, _, _, rfl⟩

/-- A decode with the same operand registers has the same outcome: the frame's validity is theirs. -/
theorem State.decodeFrame_of_sameOperands {s s' : State} (h0 : s.in0 = s'.in0) (h1 : s.in1 = s'.in1)
    (a b c d : Word) :
    s'.decodeFrame a b c d =
      (s'.writeOuts (s.decodeFrame a b c d).out0 (s.decodeFrame a b c d).out1
        (s.decodeFrame a b c d).out2 (s.decodeFrame a b c d).out3).writeStatus (s.decodeFrame a b c d).status := by
  simp only [State.decodeFrame, ← h0, ← h1]
  split <;> rfl

/-- The results a command leaves on one state it also writes on every other state with the same IN0 and IN1, and it writes nothing else (R31, R48). -/
theorem exec_of_sameOperands {i : Instr} {s s' t : State} (h0 : s.in0 = s'.in0) (h1 : s.in1 = s'.in1)
    (h : exec i s = .next t) :
    exec i s' = .next ((s'.writeOuts t.out0 t.out1 t.out2 t.out3).writeStatus t.status) := by
  cases i <;> cases h
  case decodeMeas | decodeSerial =>
    rw [← State.decodeFrame_of_sameOperands h0 h1, h0, h1]
    rfl
  all_goals
    simp only [State.complete_out0, State.complete_out1, State.complete_out2, State.complete_out3,
      State.complete_status, h0, h1]
    rfl

/-- A command's next state is its start state with the results written: the frame of all eight commands. -/
theorem exec_frame {i : Instr} {s t : State} (h : exec i s = .next t) :
    t = (s.writeOuts t.out0 t.out1 t.out2 t.out3).writeStatus t.status := by
  have hs := exec_of_sameOperands rfl rfl h
  rw [h] at hs
  exact Host.Outcome.next.inj hs

/-- No command reads its destination registers: what STATUS and OUT0 to OUT3 held before does not matter (R25, R28). -/
theorem exec_writeResults (i : Instr) (s : State) (v a b c d : Word) :
    exec i ((s.writeOuts a b c d).writeStatus v) = exec i s := by
  obtain ⟨t, ht⟩ := exec_next i s
  exact (exec_of_sameOperands rfl rfl ht).trans (exec_of_sameOperands rfl rfl ht).symm

/-- No command reads a flag (R33). -/
theorem exec_writeStatus (i : Instr) (s : State) (v : Word) : exec i (s.writeStatus v) = exec i s :=
  exec_writeResults i s v s.out0 s.out1 s.out2 s.out3

/-- The outcomes of a command: it completes, both fields being valid if it is a decode, or it is a decode with an invalid field. -/
theorem exec_outcomes (i : Instr) (s : State) :
    ((isDecode i → fieldValid s.in0 = true ∧ fieldValid s.in1 = true) ∧
        ∃ a b c d, exec i s = .next (s.complete a b c d)) ∨
      (isDecode i ∧ (fieldValid s.in0 = false ∨ fieldValid s.in1 = false) ∧
        exec i s = .next (s.decodeFail (fieldValid s.in0) (fieldValid s.in1))) := by
  by_cases hi : isDecode i
  · obtain ⟨a, b, c, d, h⟩ := exec_of_isDecode hi s
    rcases State.decodeFrame_cases a b c d s with ⟨h0, h1, hc⟩ | ⟨hv, hf⟩
    · exact .inl ⟨fun _ => ⟨h0, h1⟩, a, b, c, d, by rw [h, hc]⟩
    · exact .inr ⟨hi, hv, by rw [h, hf]⟩
  · exact .inl ⟨fun hd => absurd hd hi, exec_of_not_isDecode hi s⟩

theorem execute_encode (i : Instr) (s : State) : execute (encode i) s = exec i s :=
  execute_of_ok (decode_encode i) s

/-- An illegal word sets STATUS to ILLEGAL and does nothing else (R142). -/
theorem execute_of_illegal {w : Word} (h : legalWord w = false) (s : State) :
    execute w s = .next s.illegalCommand := by
  cases hd : decode w with
  | ok i =>
    rw [(decode_eq_ok_iff w i).mp hd, legalWord_encode] at h
    cases h
  | error e => exact execute_of_error hd s

/-- Neither a command nor an illegal word reads STATUS (R25). -/
theorem execute_writeStatus (w : Word) (s : State) (v : Word) : execute w (s.writeStatus v) = execute w s := by
  cases hd : decode w with
  | ok i => rw [execute_of_ok hd, execute_of_ok hd, exec_writeStatus]
  | error e =>
    rw [execute_of_error hd, execute_of_error hd]
    rfl

end Sys2Proof.Machine
end

section
/-! R24, R33: the STATUS values that commands write, and their fields. -/

namespace Sys2Proof.Machine

@[simp] theorem okFlag_statusOk : okFlag statusOk = true := rfl

@[simp] theorem crc0ErrFlag_statusOk : crc0ErrFlag statusOk = false := rfl

@[simp] theorem crc1ErrFlag_statusOk : crc1ErrFlag statusOk = false := rfl

@[simp] theorem illegalFlag_statusOk : illegalFlag statusOk = false := rfl

@[simp] theorem okFlag_statusIllegal : okFlag statusIllegal = false := rfl

@[simp] theorem crc0ErrFlag_statusIllegal : crc0ErrFlag statusIllegal = false := rfl

@[simp] theorem crc1ErrFlag_statusIllegal : crc1ErrFlag statusIllegal = false := rfl

@[simp] theorem illegalFlag_statusIllegal : illegalFlag statusIllegal = true := rfl

@[simp] theorem okFlag_statusDecodeFail (p q : Bool) : okFlag (statusDecodeFail p q) = false := by
  cases p <;> cases q <;> rfl

@[simp] theorem crc0ErrFlag_statusDecodeFail (p q : Bool) : crc0ErrFlag (statusDecodeFail p q) = !p := by
  cases p <;> cases q <;> rfl

@[simp] theorem crc1ErrFlag_statusDecodeFail (p q : Bool) : crc1ErrFlag (statusDecodeFail p q) = !q := by
  cases p <;> cases q <;> rfl

@[simp] theorem illegalFlag_statusDecodeFail (p q : Bool) : illegalFlag (statusDecodeFail p q) = false := by
  cases p <;> cases q <;> rfl

/-- A failed decode's STATUS is 2, 4 or 6 (R103, R105). -/
theorem statusDecodeFail_mem {p q : Bool} (h : p = false ∨ q = false) :
    statusDecodeFail p q ∈ [0x2#32, 0x4#32, 0x6#32] := by
  revert h
  cases p <;> cases q <;> decide

/-- STATUS after a decode, by which fields are valid (R33). -/
theorem State.decodeFrame_status (a b c d : Word) (s : State) :
    (s.decodeFrame a b c d).status =
      match fieldValid s.in0, fieldValid s.in1 with
      | true, true => 0x00000001#32
      | false, true => 0x00000002#32
      | true, false => 0x00000004#32
      | false, false => 0x00000006#32 := by
  cases h0 : fieldValid s.in0 <;> cases h1 : fieldValid s.in1
  · rw [State.decodeFrame_of_invalid (.inl h0), h0, h1]; rfl
  · rw [State.decodeFrame_of_invalid (.inl h0), h0, h1]; rfl
  · rw [State.decodeFrame_of_invalid (.inr h1), h0, h1]; rfl
  · rw [State.decodeFrame_of_valid h0 h1]; rfl

end Sys2Proof.Machine
end

section
/-! What the accesses of the host port and a placed move do, said once. -/

namespace Sys2Proof.Machine

/-- A read changes no register (R44, R48). -/
theorem State.sameRegisters_receive (v : Word) (s : State) : s.sameRegisters (s.receive v) :=
  ⟨rfl, rfl, rfl, rfl, rfl, rfl, rfl⟩

theorem perform_read (widx : WordIndex) (s : State) : perform (.read widx) s = .next (s.receive (s.readWord widx)) :=
  rfl

/-- A read completes and changes no register (R44, R48). -/
theorem perform_read_sameRegisters (widx : WordIndex) (s : State) :
    ∃ t, perform (.read widx) s = .next t ∧ s.sameRegisters t :=
  ⟨_, perform_read widx s, State.sameRegisters_receive _ s⟩

theorem perform_write_cmd (w : Word) (s : State) : perform (.write 0#4 w) s = execute w s :=
  rfl

/-- Every word but CMD, IN0 and IN1 ignores a write (R45). -/
theorem perform_write_ignored {widx : WordIndex} (h0 : widx ≠ 0#4) (h2 : widx ≠ 2#4) (h3 : widx ≠ 3#4)
    (v : Word) (s : State) : perform (.write widx v) s = .next s := by
  simp only [perform]
  unfold hostWrite
  split
  · exact absurd rfl h0
  · exact absurd rfl h2
  · exact absurd rfl h3
  · rfl

/-- The result words and the unmapped words ignore a write (R28, R29). -/
theorem perform_write_ignored_of_four_le {widx : WordIndex} (h : 4 ≤ widx.toNat) (v : Word) (s : State) :
    perform (.write widx v) s = .next s := by
  refine perform_write_ignored ?_ ?_ ?_ v s <;> rintro rfl <;> simp at h

/-- A write to a word other than CMD completes with the results of the last command in place (R25, R28). -/
theorem perform_write_sameResults {widx : WordIndex} (h : widx ≠ 0#4) (v : Word) (s : State) :
    ∃ t, perform (.write widx v) s = .next t ∧ s.sameResults t := by
  by_cases h2 : widx = 2#4
  · subst h2
    exact ⟨_, rfl, rfl, rfl, rfl, rfl, rfl⟩
  by_cases h3 : widx = 3#4
  · subst h3
    exact ⟨_, rfl, rfl, rfl, rfl, rfl, rfl⟩
  · exact ⟨s, perform_write_ignored h h2 h3 v s, rfl, rfl, rfl, rfl, rfl⟩

/-- Words 8 to 15 are unmapped: they read 0 (R29). -/
theorem State.readWord_of_unmapped {widx : WordIndex} (h : 8 ≤ widx.toNat) (s : State) : s.readWord widx = 0#32 := by
  unfold State.readWord
  split <;> simp at h ⊢

theorem readWord_reset (widx : WordIndex) : State.reset.readWord widx = 0#32 := by
  unfold State.readWord
  split <;> rfl

/-- Where the host stands in its list, a placed move takes the place of the move there (log 3). -/
theorem State.placeMove_program_of_lt {s : State} (h : s.position < s.program.length) (m : HostMove) :
    (s.placeMove m).program = s.program.set s.position m :=
  (List.set_eq_take_append_cons_drop.trans (if_pos h)).symm

/-- Past its list's last move, a placed move is appended (log 3). -/
theorem State.placeMove_program_of_ge {s : State} (h : s.program.length ≤ s.position) (m : HostMove) :
    (s.placeMove m).program = s.program ++ [m] := by
  simp [State.placeMove, List.take_of_length_le h, List.drop_eq_nil_of_le (Nat.le_succ_of_le h)]

@[simp] theorem State.placeMove_position (m : HostMove) (s : State) :
    (s.placeMove m).position = min s.position s.program.length := rfl

/-- A placed move is the host's next one (log 3). -/
theorem State.nextMove_placeMove (m : HostMove) (s : State) : (s.placeMove m).nextMove = some m := by
  rw [State.nextMove, State.placeMove_position]
  rcases Nat.lt_or_ge s.position s.program.length with h | h
  · rw [State.placeMove_program_of_lt h, Nat.min_eq_left h.le, List.getElem?_set_self h]
  · rw [State.placeMove_program_of_ge h, Nat.min_eq_right h, List.getElem?_concat_length]

/-- Placing a move keeps every other move of the list (log 3). -/
theorem State.placeMove_program_getElem? {k : Nat} {s : State} (hk : k ≠ s.position) (hlt : k < s.program.length)
    (m : HostMove) : (s.placeMove m).program[k]? = s.program[k]? := by
  rcases Nat.lt_or_ge s.position s.program.length with h | h
  · rw [State.placeMove_program_of_lt h, List.getElem?_set_ne hk.symm]
  · rw [State.placeMove_program_of_ge h, List.getElem?_append_left hlt]

/-- The bridge's window: word `widx` stands at `CRCDEC_BASE + 4 * widx` (R46). -/
theorem addr_of_bridgeIndex {addr : Nat} {widx : WordIndex} (h : bridgeIndex addr = some widx) :
    addr = Config.crcdecBase + 4 * widx.toNat := by
  unfold bridgeIndex at h
  split at h
  · rename_i hw
    obtain ⟨hbase, hmod, hlt⟩ := hw
    cases h
    rw [BitVec.toNat_ofNat, Nat.mod_eq_of_lt hlt]
    omega
  · cases h

/-- The host writes `v` to word `widx`, at the port or through a bridge (R46, log 4). -/
def writesWord (m : HostMove) (widx : WordIndex) (v : Word) : Prop :=
  m = .write widx v ∨ m = .bridgeWrite (Config.crcdecBase + 4 * widx.toNat) 4 v

/-- What a move does to a state, told by the move: a reset, a write, or nothing to the registers. -/
theorem perform_cases_of_move {m : HostMove} {s t : State} (h : perform m s = .next t) :
    s.sameRegisters t ∨ (m = .reset ∧ t = s.resetRegisters) ∨
      ∃ widx v, writesWord m widx v ∧ hostWrite widx v s = .next t := by
  cases m with
  | read widx => cases h; exact .inl (State.sameRegisters_receive _ s)
  | write widx v => exact .inr (.inr ⟨widx, v, .inl rfl, h⟩)
  | signal sig =>
    cases h
    rcases State.takeSignal_cases sig s with ⟨rfl, h⟩ | ⟨-, h⟩
    · exact .inr (.inl ⟨rfl, h⟩)
    · rw [h]
      exact .inl ⟨rfl, rfl, rfl, rfl, rfl, rfl, rfl⟩
  | bridgeRead addr nbytes =>
    obtain ⟨widx, -, -, h⟩ := bridgeAccess_next h
    cases h
    exact .inl (State.sameRegisters_receive _ s)
  | bridgeWrite addr nbytes v =>
    obtain ⟨widx, hw, rfl, hwrite⟩ := bridgeAccess_next h
    exact .inr (.inr ⟨widx, v, .inr (by rw [addr_of_bridgeIndex hw]), hwrite⟩)

theorem execute_operands {w : Word} {s t : State} (h : execute w s = .next t) : t.in0 = s.in0 ∧ t.in1 = s.in1 := by
  rcases execute_cases h with ⟨i, -, h⟩ | ⟨e, -, rfl⟩
  · rw [exec_frame h]
    exact ⟨rfl, rfl⟩
  · exact ⟨rfl, rfl⟩

/-- What a move does to the operand registers (R26, R27, R160). -/
theorem perform_operands {m : HostMove} {s t : State} (h : perform m s = .next t) :
    (t.in0 = s.in0 ∧ t.in1 = s.in1) ∨ (m = .reset ∧ t.in0 = 0#32 ∧ t.in1 = 0#32) ∨
      (writesWord m 2#4 t.in0 ∧ t.in1 = s.in1) ∨ (t.in0 = s.in0 ∧ writesWord m 3#4 t.in1) := by
  rcases perform_cases_of_move h with ⟨-, h0, h1, -⟩ | ⟨hm, rfl⟩ | ⟨widx, v, hm, hw⟩
  · exact .inl ⟨h0, h1⟩
  · exact .inr (.inl ⟨hm, rfl, rfl⟩)
  · rcases hostWrite_cases hw with ⟨-, hx⟩ | ⟨rfl, rfl⟩ | ⟨rfl, rfl⟩ | ⟨-, rfl⟩
    · exact .inl (execute_operands hx)
    · exact .inr (.inr (.inl ⟨hm, rfl⟩))
    · exact .inr (.inr (.inr ⟨rfl, hm⟩))
    · exact .inl ⟨rfl, rfl⟩

end Sys2Proof.Machine
end

section
/-! R24, R106, R162, R21: the invariant, operation by operation, and then over every step. -/

namespace Sys2Proof.Machine

theorem State.inv_iff (s : State) :
    s.inv = true ↔ s.statusLegal = true ∧ s.noPartialResult = true ∧ s.positionInList = true := by
  rw [State.inv, Bool.and_eq_true_iff, Bool.and_eq_true_iff, and_assoc]

theorem State.noPartialResult_of_outsZero {s : State} (h : s.outsZero = true) : s.noPartialResult = true := by
  rw [State.noPartialResult, h, Bool.or_true]

theorem State.noPartialResult_of_status {s : State} (hfail : s.crcFailed = false) (hne : s.status ≠ 0#32) :
    s.noPartialResult = true := by
  rw [State.noPartialResult, hfail, beq_false_of_ne hne]
  rfl

/-! A command and a reset establish the part about the registers, whatever stood in them. -/

theorem State.inv_complete {s : State} (h : s.positionInList = true) (a b c d : Word) :
    (s.complete a b c d).inv = true :=
  (State.inv_iff _).mpr ⟨rfl, State.noPartialResult_of_status (by simp [State.crcFailed])
    (by decide : statusOk ≠ 0#32), h⟩

theorem State.inv_decodeFail {s : State} (h : s.positionInList = true) (p q : Bool) :
    (s.decodeFail p q).inv = true := by
  have hlegal : (s.decodeFail p q).statusLegal = true := by
    cases p <;> cases q <;> rfl
  exact (State.inv_iff _).mpr ⟨hlegal, State.noPartialResult_of_outsZero rfl, h⟩

theorem State.inv_illegalCommand {s : State} (h : s.positionInList = true) : s.illegalCommand.inv = true :=
  (State.inv_iff _).mpr ⟨rfl, State.noPartialResult_of_status (by simp [State.crcFailed])
    (by decide : statusIllegal ≠ 0#32), h⟩

theorem State.inv_resetRegisters {s : State} (h : s.positionInList = true) : s.resetRegisters.inv = true :=
  (State.inv_iff _).mpr ⟨rfl, State.noPartialResult_of_outsZero rfl, h⟩

/-! An operand write and a read leave everything the invariant speaks of. -/

@[simp] theorem State.inv_writeIn0 (v : Word) (s : State) : (s.writeIn0 v).inv = s.inv := rfl

@[simp] theorem State.inv_writeIn1 (v : Word) (s : State) : (s.writeIn1 v).inv = s.inv := rfl

@[simp] theorem State.inv_receive (v : Word) (s : State) : (s.receive v).inv = s.inv := rfl

/-- Going past a move that is there stays in the list (R21). -/
theorem State.inv_advance {s : State} (h : s.inv = true) (hlt : s.position < s.program.length) :
    s.advance.inv = true := by
  obtain ⟨hlegal, hno, -⟩ := (State.inv_iff s).mp h
  exact (State.inv_iff _).mpr ⟨hlegal, hno, decide_eq_true hlt⟩

theorem exec_keeps_inv {i : Instr} {s t : State} (hs : s.inv = true) (h : exec i s = .next t) : t.inv = true := by
  obtain ⟨-, -, hpos⟩ := (State.inv_iff s).mp hs
  rcases exec_cases h with ⟨a, b, c, d, rfl⟩ | ⟨-, -, rfl⟩
  · exact State.inv_complete hpos a b c d
  · exact State.inv_decodeFail hpos _ _

theorem execute_keeps_inv {w : Word} {s t : State} (hs : s.inv = true) (h : execute w s = .next t) : t.inv = true := by
  obtain ⟨-, -, hpos⟩ := (State.inv_iff s).mp hs
  rcases execute_cases h with ⟨i, -, h⟩ | ⟨e, -, rfl⟩
  · exact exec_keeps_inv hs h
  · exact State.inv_illegalCommand hpos

theorem hostWrite_keeps_inv {widx : WordIndex} {v : Word} {s t : State} (hs : s.inv = true)
    (h : hostWrite widx v s = .next t) : t.inv = true := by
  rcases hostWrite_cases h with ⟨-, h⟩ | ⟨-, rfl⟩ | ⟨-, rfl⟩ | ⟨-, rfl⟩
  · exact execute_keeps_inv hs h
  · rwa [State.inv_writeIn0]
  · rwa [State.inv_writeIn1]
  · exact hs

theorem perform_keeps_inv {m : HostMove} {s t : State} (hs : s.inv = true) (h : perform m s = .next t) :
    t.inv = true := by
  obtain ⟨-, -, hpos⟩ := (State.inv_iff s).mp hs
  rcases perform_cases h with ⟨widx, rfl⟩ | ⟨widx, v, h⟩ | ⟨-, rfl⟩ | rfl
  · rwa [State.inv_receive]
  · exact hostWrite_keeps_inv hs h
  · exact State.inv_resetRegisters hpos
  · exact hs

/-- Settles O60: the host goes one place further within its list, and then its move keeps the invariant. -/
theorem everyStepKeepsTheInvariant : Obligations.EveryStepKeepsTheInvariant := by
  intro s t hs h
  rcases step_cases h with ⟨-, rfl⟩ | ⟨m, hm, h⟩
  · exact hs
  · exact perform_keeps_inv (State.inv_advance hs (position_lt_of_nextMove hm)) h

/-- Settles O59: the state after reset is one that the reset action leaves, with the host at the start of an empty list. -/
theorem invariantHoldsAtReset : Obligations.InvariantHoldsAtReset :=
  State.inv_resetRegisters (s := State.reset) rfl

end Sys2Proof.Machine
end

section
/-! The statements about what a command reads and writes (R23 to R34, R162). -/

namespace Sys2Proof.Machine

/-- Settles O16: the results of the one state are what the command writes on the other. -/
theorem resultsDependOnlyOnOperands : Obligations.ResultsDependOnlyOnOperands := by
  intro i s s' h0 h1
  obtain ⟨t, ht⟩ := exec_next i s
  exact ⟨t, _, ht, exec_of_sameOperands h0 h1 ht, rfl, rfl, rfl, rfl, rfl⟩

/-- Settles O17: a command writes STATUS and OUT0 to OUT3 of the state it finds. -/
theorem commandsKeepOperandsAndHost : Obligations.CommandsKeepOperandsAndHost := by
  intro i s t h
  rw [exec_frame h]
  exact ⟨rfl, rfl, rfl, rfl, rfl⟩

/-- Settles O19: a command word's outcome ignores the STATUS it finds, and the other accesses keep it. -/
theorem everyCommandReplacesStatus : Obligations.EveryCommandReplacesStatus := by
  refine ⟨execute_writeStatus, fun widx v s h => ?_, fun widx s => ?_, fun v s => ?_⟩
  · obtain ⟨t, ht, hstatus, -⟩ := perform_write_sameResults h v s
    exact ⟨t, ht, hstatus⟩
  · exact ⟨_, perform_read widx s, State.receive_status _ s⟩
  · exact perform_write_ignored (by decide) (by decide) (by decide) v s

/-- Settles O20: only a legal command and a reset write OUT0 to OUT3, and both write all four. -/
theorem legalCommandsReplaceAllOutputs : Obligations.LegalCommandsReplaceAllOutputs := by
  refine ⟨fun i s a b c d => exec_writeResults i s s.status a b c d, fun w s h => ?_, fun widx v s h => ?_,
    fun widx s => ?_, fun widx v s hlo _ => perform_write_ignored_of_four_le hlo v s,
    fun s => ⟨_, perform_reset s, rfl, rfl, rfl, rfl⟩⟩
  · exact ⟨_, execute_of_illegal h s, rfl, rfl, rfl, rfl⟩
  · obtain ⟨t, ht, -, houts⟩ := perform_write_sameResults h v s
    exact ⟨t, ht, houts⟩
  · exact ⟨_, perform_read widx s, rfl, rfl, rfl, rfl⟩

theorem fieldValid_eq_decide (w : Word) :
    fieldValid w = decide (crc8 (w.extractLsb' 8 16) = w.extractLsb' 0 8) :=
  rfl

/-- Settles O21: a decode's STATUS follows the validity of its two fields, every other command's is OK. -/
theorem statusAfterEachOutcome : Obligations.StatusAfterEachOutcome := by
  intro s
  refine ⟨fun i hi => ?_, ⟨_, rfl, rfl, fun h => if_pos h, fun h => if_neg h⟩, fun i hi => ?_, fun w h => ?_,
    fun i v => exec_writeStatus i s v⟩
  · have hnd : ¬ isDecode i := by
      rintro (rfl | rfl) <;> simp at hi
    obtain ⟨a, b, c, d, h⟩ := exec_of_not_isDecode hnd s
    exact ⟨_, h, rfl⟩
  · obtain ⟨a, b, c, d, h⟩ := exec_of_isDecode (i := i) (by simpa [isDecode] using hi) s
    rw [← fieldValid_eq_decide, ← fieldValid_eq_decide]
    exact ⟨_, h, State.decodeFrame_status a b c d s⟩
  · exact ⟨_, execute_of_illegal h s, rfl⟩

/-- The decode commands are the ones of the words 0x10 and 0x11 (R61). -/
theorem isDecode_iff_encode (i : Instr) : isDecode i ↔ encode i = 0x10#32 ∨ encode i = 0x11#32 :=
  or_congr ⟨congrArg encode, fun h => encode_injective (j := .decodeMeas) h⟩
    ⟨congrArg encode, fun h => encode_injective (j := .decodeSerial) h⟩

theorem fieldValid_eq_false_iff (w : Word) :
    fieldValid w = false ↔ crc8 (w.extractLsb' 8 16) ≠ w.extractLsb' 0 8 := by
  rw [← Bool.not_eq_true, fieldValid_iff]

/-- The STATUS that a command's word leaves is the field-by-field report of R24 and R33. -/
theorem exec_statusFields (i : Instr) (s : State) : ∃ t, exec i s = .next t ∧
    (okFlag t.status = true ↔ (isDecode i → fieldValid s.in0 = true ∧ fieldValid s.in1 = true)) ∧
    (crc0ErrFlag t.status = true ↔ isDecode i ∧ fieldValid s.in0 = false) ∧
    (crc1ErrFlag t.status = true ↔ isDecode i ∧ fieldValid s.in1 = false) ∧
    illegalFlag t.status = false ∧ t.status ∈ [0x1#32, 0x2#32, 0x4#32, 0x6#32] := by
  rcases exec_outcomes i s with ⟨hvalid, a, b, c, d, h⟩ | ⟨hi, hinvalid, h⟩
  · refine ⟨_, h, ?_, ?_, ?_, illegalFlag_statusOk, List.mem_cons_self⟩
    · simpa using hvalid
    · simpa using fun hi => (hvalid hi).1
    · simpa using fun hi => (hvalid hi).2
  · refine ⟨_, h, ?_, ?_, ?_, illegalFlag_statusDecodeFail _ _,
      List.mem_cons_of_mem _ (statusDecodeFail_mem hinvalid)⟩
    · rcases hinvalid with hv | hv <;> simp [hi, hv]
    · simp [hi]
    · simp [hi]

/-- R24: in each value a command word writes to STATUS, bits 31 to 4 are 0. -/
theorem reservedBits_of_mem {v : Word} (h : v ∈ [0x1#32, 0x2#32, 0x4#32, 0x6#32, 0x8#32]) :
    v.extractLsb' 4 28 = 0#28 := by
  simp only [List.mem_cons, List.not_mem_nil, or_false] at h
  rcases h with rfl | rfl | rfl | rfl | rfl <;> rfl

/-- Settles O22: an illegal word writes 8, and a command's word reports its fields. -/
theorem statusFieldsOfEveryCommand : Obligations.StatusFieldsOfEveryCommand := by
  refine ⟨rfl, fun w s => ?_⟩
  cases hw : legalWord w with
  | false =>
    have hne : ¬ (w = 0x10#32 ∨ w = 0x11#32) := by
      rintro (rfl | rfl) <;> cases hw
    have hmem : statusIllegal ∈ [0x1#32, 0x2#32, 0x4#32, 0x6#32, 0x8#32] := by decide
    refine ⟨_, execute_of_illegal hw s, ?_, ?_, ?_, ?_, reservedBits_of_mem hmem, hmem⟩ <;> simp [hne]
  | true =>
    obtain ⟨i, rfl⟩ := (legalWord_iff w).mp hw
    obtain ⟨t, ht, hok, h0, h1, hill, hmem⟩ := exec_statusFields i s
    rw [isDecode_iff_encode] at hok h0 h1
    rw [fieldValid_eq_false_iff] at h0 h1
    have hmem5 : t.status ∈ [0x1#32, 0x2#32, 0x4#32, 0x6#32, 0x8#32] := List.mem_append_left [0x8#32] hmem
    exact ⟨t, (execute_encode i s).trans ht, by simpa using hok, h0, h1, by simp [hill],
      reservedBits_of_mem hmem5, hmem5⟩

end Sys2Proof.Machine
end

section
/-! The statements about the host's moves and the step (R20 to R29, R43, R46, R66, R67, R160). -/

namespace Sys2Proof.Machine

/-- Settles O9: the placed move is the next one, and the host has gone past it when its word is executed. -/
theorem placedWordIsExecutedNext : Obligations.PlacedWordIsExecutedNext := by
  intro s nbits w
  refine ⟨(s.withFetchWord nbits w).advance, ⟨rfl, rfl, rfl, rfl, rfl, rfl, rfl⟩, rfl,
    fun k hk hlt => State.placeMove_program_getElem? hk hlt _, rfl, ?_⟩
  exact step_of_nextMove (State.nextMove_placeMove _ s)

theorem nextMove_of_writesWord {m : HostMove} {widx : WordIndex} {v : Word} {s : State}
    (hm : s.nextMove = some m) (hw : writesWord m widx v) :
    s.program[s.position]? = some (.write widx v) ∨
      s.program[s.position]? = some (.bridgeWrite (Config.crcdecBase + 4 * widx.toNat) 4 v) := by
  rcases hw with rfl | rfl
  exacts [.inl hm, .inr hm]

/-- Settles O18: a step's move is the host's next one, and only a write to the word or a reset reaches an operand register. -/
theorem onlyTheHostChangesOperands : Obligations.OnlyTheHostChangesOperands := by
  intro s t h
  rcases step_cases h with ⟨-, rfl⟩ | ⟨m, hm, h⟩
  · exact ⟨.inl rfl, .inl rfl⟩
  rcases perform_operands h with ⟨h0, h1⟩ | ⟨rfl, h0, h1⟩ | ⟨hw, h1⟩ | ⟨h0, hw⟩
  · exact ⟨.inl h0, .inl h1⟩
  · exact ⟨.inr (.inl ⟨h0, hm⟩), .inr (.inl ⟨h1, hm⟩)⟩
  · exact ⟨.inr (.inr (nextMove_of_writesWord hm hw)), .inl h1⟩
  · exact ⟨.inl h0, .inr (.inr (nextMove_of_writesWord hm hw))⟩

/-- Settles O8: the step performs the host's next move, and a CMD write performs its word. -/
theorem stepRunsTheDecodedCommand : Obligations.StepRunsTheDecodedCommand := by
  refine ⟨fun s w i hm hw _ => ?_, fun s m hm => step_of_nextMove hm, fun s hm => step_of_noMove hm,
    fun s widx => perform_read widx s, fun s => ⟨_, perform_reset s, rfl, rfl, rfl⟩, fun s sig hsig => ?_⟩
  · exact (step_of_nextMove hm).trans (execute_of_ok hw s.advance)
  · exact congrArg Host.Outcome.next (State.takeSignal_of_ne hsig s)

/-- Settles O10: a CMD write is Execute of its word, and a CMD read is a read of 0. -/
theorem cmdHasNoStorage : Obligations.CmdHasNoStorage := by
  intro s w
  rw [perform_write_cmd]
  exact ⟨fun _ hw => execute_of_ok hw s, fun hrsvd => execute_of_illegal (legalWord_of_rsvd_ne_zero hrsvd) s, rfl,
    perform_read_sameRegisters 0#4 s⟩

/-- Settles O13: an unmapped word is none of the words that hold something. -/
theorem unmappedWordsReadZeroIgnoreWrites : Obligations.UnmappedWordsReadZeroIgnoreWrites := fun widx v s h =>
  ⟨State.readWord_of_unmapped h s, perform_read_sameRegisters widx s,
    perform_write_ignored_of_four_le (le_trans (by decide) h) v s⟩

/-- Settles O57: the reset action leaves 0 in all seven registers, and no word reads anything else. -/
theorem resetClearsEveryRegister : Obligations.ResetClearsEveryRegister :=
  ⟨⟨rfl, rfl, rfl, rfl, rfl, rfl, rfl⟩, fun s => ⟨_, perform_reset s, rfl, rfl, rfl, rfl, rfl, rfl, rfl⟩,
    readWord_reset⟩

end Sys2Proof.Machine
end

section
/-! What a bridge access (R46), a repeated command (R48) and the tables of R44 and R45 come to, said once. -/

namespace Sys2Proof.Machine

/-- The address of word `widx` is that word's and no other's (R46). -/
theorem bridgeIndex_wordAddr (widx : WordIndex) :
    bridgeIndex (Config.crcdecBase + 4 * widx.toNat) = some widx := by
  have hdiv : (Config.crcdecBase + 4 * widx.toNat - Config.crcdecBase) / 4 = widx.toNat := by omega
  have hlt : widx.toNat < 16 := widx.isLt
  rw [bridgeIndex, if_pos (by omega), hdiv, BitVec.ofNat_toNat, BitVec.setWidth_eq]

/-- A whole-word access at a word's address is the port's access at that word (R46). -/
theorem bridgeAccess_wordAddr (widx : WordIndex) (f : WordIndex → Host.Outcome State Fault Refusal) :
    bridgeAccess (Config.crcdecBase + 4 * widx.toNat) 4 f = f widx := by
  simp [bridgeAccess, bridgeIndex_wordAddr]

/-- An access at no word's address, or of another width than 4 bytes, is refused (R46). -/
theorem bridgeAccess_refused {addr nbytes : Nat}
    (h : (∀ widx : WordIndex, addr ≠ Config.crcdecBase + 4 * widx.toNat) ∨ nbytes ≠ 4)
    (f : WordIndex → Host.Outcome State Fault Refusal) : ∃ r, bridgeAccess addr nbytes f = .refused r := by
  cases hidx : bridgeIndex addr with
  | none => exact ⟨.bridgeAddress, by simp [bridgeAccess, hidx]⟩
  | some widx =>
    have hwidth : nbytes ≠ 4 := h.resolve_left fun haddr => haddr widx (addr_of_bridgeIndex hidx)
    exact ⟨.bridgeWidth, by simp [bridgeAccess, hidx, hwidth]⟩

theorem execute_next (w : Word) (s : State) : ∃ t, execute w s = .next t := by
  cases hd : decode w with
  | ok i =>
    rw [execute_of_ok hd]
    exact exec_next i s
  | error e => exact ⟨_, execute_of_error hd s⟩

theorem exec_operands {i : Instr} {s t : State} (h : exec i s = .next t) : t.in0 = s.in0 ∧ t.in1 = s.in1 :=
  execute_operands ((execute_encode i s).trans h)

/-- A command keeps its operands, so run again it writes the results that already stand there (R48). -/
theorem exec_idempotent {i : Instr} {s t : State} (h : exec i s = .next t) : exec i t = .next t := by
  obtain ⟨h0, h1⟩ := exec_operands h
  exact exec_of_sameOperands h0.symm h1.symm h

/-- A command word written again, legal or not, changes nothing (R48). -/
theorem execute_idempotent {w : Word} {s t : State} (h : execute w s = .next t) : execute w t = .next t := by
  rcases execute_cases h with ⟨i, hw, h⟩ | ⟨e, hw, rfl⟩
  · exact (execute_of_ok hw t).trans (exec_idempotent h)
  · exact execute_of_error hw s.illegalCommand

/-- The table of R44. -/
theorem State.readWord_eq_ite (widx : WordIndex) (s : State) :
    s.readWord widx = if widx = 1#4 then s.status else if widx = 2#4 then s.in0 else if widx = 3#4 then s.in1
      else if widx = 4#4 then s.out0 else if widx = 5#4 then s.out1 else if widx = 6#4 then s.out2
      else if widx = 7#4 then s.out3 else 0#32 := by
  unfold State.readWord
  split
  case h_9 _ h1 h2 h3 h4 h5 h6 h7 =>
    rw [if_neg h1, if_neg h2, if_neg h3, if_neg h4, if_neg h5, if_neg h6, if_neg h7]
  all_goals rfl

/-- The table of R45. -/
theorem perform_write_eq_ite (widx : WordIndex) (v : Word) (s : State) :
    perform (.write widx v) s =
      if widx = 0#4 then execute v s
      else if widx = 2#4 then .next (s.writeIn0 v)
      else if widx = 3#4 then .next (s.writeIn1 v)
      else .next s := by
  split_ifs with h0 h2 h3
  · rw [h0, perform_write_cmd]
  · rw [h2]; rfl
  · rw [h3]; rfl
  · exact perform_write_ignored h0 h2 h3 v s

end Sys2Proof.Machine
end

section
/-! The statements about the host's accesses to the words of the block (R44 to R46, R48). -/

namespace Sys2Proof.Machine

/-- Settles O14: a bridge access is the port's access at a whole word, and has no meaning elsewhere. -/
theorem bridgeReachesWholeWordsOnly : Obligations.BridgeReachesWholeWordsOnly := by
  refine ⟨fun widx s => bridgeAccess_wordAddr widx _, fun widx v s => bridgeAccess_wordAddr widx _,
    fun addr nbytes v s h => ?_⟩
  obtain ⟨r, hread⟩ := bridgeAccess_refused h fun widx => hostRead widx s
  obtain ⟨r', hwrite⟩ := bridgeAccess_refused h fun widx => hostWrite widx v s
  exact ⟨r, r', hread, hwrite⟩

/-- Settles O15: a CMD write is Execute of its word, which every state answers and which is idempotent. -/
theorem accessesAreIdempotent : Obligations.AccessesAreIdempotent := by
  refine ⟨perform_read_sameRegisters, fun v s => ⟨rfl, rfl⟩, fun w s => ?_⟩
  obtain ⟨t, ht⟩ := execute_next w s
  exact ⟨t, ht, execute_idempotent ht⟩

/-- Settles O11: the table of the port's reads, and a read's frame. -/
theorem hostReadTable : Obligations.HostReadTable := fun widx s =>
  ⟨State.readWord_eq_ite widx s, perform_read_sameRegisters widx s⟩

/-- Settles O12: the table of the port's writes. -/
theorem hostWriteTable : Obligations.HostWriteTable :=
  perform_write_eq_ite

end Sys2Proof.Machine
end

section
/-! R60, R61, R64: which words are legal, and which check rejects the others. -/

namespace Sys2Proof

theorem exists_decode_ok_iff (w : Word) : (∃ i, decode w = .ok i) ↔ ∃ i, w = encode i :=
  exists_congr fun i => decode_eq_ok_iff w i

/-- The commands' words are the listed opcodes under a zero RSVD (R60, R61). -/
theorem mem_map_opcodes_iff (w : Word) : w ∈ opcodes.map (0#24 ++ ·) ↔ ∃ i, w = encode i := by
  constructor
  · intro h
    obtain ⟨op, hop, rfl⟩ := List.mem_map.mp h
    obtain ⟨i, rfl⟩ := (mem_opcodes_iff op).mp hop
    exact ⟨i, rfl⟩
  · rintro ⟨i, rfl⟩
    exact List.mem_map_of_mem ((mem_opcodes_iff _).mpr ⟨i, rfl⟩)

theorem decodeOpcode_eq_none_iff (op : Byte) : decodeOpcode op = none ↔ op ∉ opcodes := by
  rw [mem_opcodes_iff]
  constructor
  · rintro h ⟨i, rfl⟩
    rw [decodeOpcode_opcode] at h
    cases h
  · intro h
    rw [Option.eq_none_iff_forall_ne_some]
    exact fun i hi => h ⟨i, opcode_of_decodeOpcode hi⟩

/-- RSVD alone decides the first check (R64, R67). -/
theorem decode_eq_reservedNotZero_iff (w : Word) :
    decode w = .error .reservedNotZero ↔ w.extractLsb' 8 24 ≠ 0#24 := by
  constructor
  · intro h
    rcases decode_error h with ⟨-, hrsvd⟩ | ⟨he, -⟩
    · exact hrsvd
    · cases he
  · exact fun hrsvd => if_pos hrsvd

/-- The second check rejects the words with a zero RSVD and an unlisted OP (R64, R67). -/
theorem decode_eq_unlistedOpcode_iff (w : Word) :
    decode w = .error .unlistedOpcode ↔ w.extractLsb' 8 24 = 0#24 ∧ w.extractLsb' 0 8 ∉ opcodes := by
  rw [← decodeOpcode_eq_none_iff]
  constructor
  · intro h
    rcases decode_error h with ⟨he, -⟩ | ⟨-, hrsvd, hop⟩
    · cases he
    · exact ⟨hrsvd, hop⟩
  · rintro ⟨hrsvd, hop⟩
    simp [decode, hrsvd, hop]

/-- The opcodes that are not listed fill the four ranges of R64. -/
theorem not_mem_opcodes_iff_ranges (op : Byte) :
    op ∉ opcodes ↔ op.toNat = 0x00 ∨ (0x04 ≤ op.toNat ∧ op.toNat ≤ 0x0F) ∨
      (0x12 ≤ op.toNat ∧ op.toNat ≤ 0x1F) ∨ (0x23 ≤ op.toNat ∧ op.toNat ≤ 0xFF) := by
  have hlt : op.toNat < 256 := op.isLt
  simp only [opcodes, List.mem_cons, List.not_mem_nil, or_false, ← BitVec.toNat_inj, BitVec.toNat_ofNat]
  omega

/-- A word is illegal when one of the two checks of R64 fails. -/
theorem legalWord_eq_false_iff (w : Word) :
    legalWord w = false ↔ w.extractLsb' 8 24 ≠ 0#24 ∨ w.extractLsb' 0 8 ∉ opcodes := by
  simp only [legalWord, rsvdIsZero, opcodeIsListed, Bool.and_eq_false_iff, beq_eq_false_iff_ne,
    List.contains_eq_mem, decide_eq_false_iff_not, ne_eq]

theorem legalWord_eq_false_of_forall_ne_encode {w : Word} (h : ∀ i, w ≠ encode i) : legalWord w = false := by
  rw [← Bool.not_eq_true, legalWord_iff]
  rintro ⟨i, hi⟩
  exact h i hi

end Sys2Proof
end

section
/-! R41, R63, R100: where the bytes of a packed field stand. -/

namespace Sys2Proof.Machine

/-- The checksum byte of a packed field is the byte received last (R63, R100). -/
@[simp] theorem packField_checksum (b0 b1 b2 : Byte) : (packField b0 b1 b2).extractLsb' 0 8 = b2 :=
  BitVec.extractLsb'_append_eq_right

/-- What stands above the checksum byte of a packed field. -/
theorem packField_above_checksum (b0 b1 b2 : Byte) (start len : Nat) :
    (packField b0 b1 b2).extractLsb' (start + 8) len = (0x00#8 ++ b0 ++ b1).extractLsb' start len := by
  rw [packField, BitVec.extractLsb'_append_eq_of_le (Nat.le_add_left 8 start), Nat.add_sub_cancel]

@[simp] theorem packField_secondByte (b0 b1 b2 : Byte) : (packField b0 b1 b2).extractLsb' 8 8 = b1 :=
  (packField_above_checksum b0 b1 b2 0 8).trans BitVec.extractLsb'_append_eq_right

@[simp] theorem packField_firstByte (b0 b1 b2 : Byte) : (packField b0 b1 b2).extractLsb' 16 8 = b0 := by
  rw [packField_above_checksum b0 b1 b2 8 8, BitVec.extractLsb'_append_eq_of_le (by decide),
    BitVec.extractLsb'_append_eq_right]

/-- Bits 23 to 8 of a word are its bits 23 to 16 above its bits 15 to 8 (R41). -/
theorem extractLsb'_value_eq_append (w : Word) :
    w.extractLsb' 8 16 = w.extractLsb' 16 8 ++ w.extractLsb' 8 8 := by
  rw [BitVec.extractLsb'_append_extractLsb'_eq_extractLsb' (by decide)]

/-- The low 24 bits of a word are its 16-bit value above its checksum byte (R100). -/
theorem extractLsb'_low24_eq_append (w : Word) :
    w.extractLsb' 0 24 = w.extractLsb' 8 16 ++ w.extractLsb' 0 8 := by
  rw [BitVec.extractLsb'_append_extractLsb'_eq_extractLsb' (by decide)]

/-- The fields of a packed register are its value, big-endian, and its checksum (R41, R63, R100). -/
theorem field_packField (b0 b1 b2 : Byte) : field (packField b0 b1 b2) = (b0 ++ b1, b2) := by
  rw [field, extractLsb'_value_eq_append, packField_firstByte, packField_secondByte, packField_checksum]

/-- Three bytes joined below a 24-bit value are its next three bytes. -/
theorem append_threeBytes (x : BitVec 24) (b0 b1 b2 : Byte) : x ++ (b0 ++ b1 ++ b2) = x ++ b0 ++ b1 ++ b2 := by
  simp only [BitVec.append_assoc, BitVec.cast_eq]

/-- The low 24 bits of a packed field are its three bytes, the one received first most significant (R63). -/
theorem packField_low24 (b0 b1 b2 : Byte) : (packField b0 b1 b2).extractLsb' 0 24 = b0 ++ b1 ++ b2 := by
  rw [extractLsb'_low24_eq_append, extractLsb'_value_eq_append, packField_firstByte, packField_secondByte,
    packField_checksum]

end Sys2Proof.Machine
end

section
/-! R62: each command reads IN0 and IN1 through its operand fields alone. -/

namespace Sys2Proof.Machine

/-- A frame field is a function of the low 24 bits of its register (R100). -/
theorem field_eq_of_low24_eq {v w : Word} (h : v.extractLsb' 0 24 = w.extractLsb' 0 24) : field v = field w := by
  have hfield (u : Word) :
      field u = ((u.extractLsb' 0 24).extractLsb' 8 16, (u.extractLsb' 0 24).extractLsb' 0 8) := by
    rw [field, BitVec.extractLsb'_extractLsb'_of_le (by decide), BitVec.extractLsb'_extractLsb'_of_le (by decide)]
  rw [hfield v, h, ← hfield w]

theorem fieldValid_eq_of_field_eq {v w : Word} (h : field v = field w) : fieldValid v = fieldValid w := by
  rw [fieldValid, h, ← fieldValid]

theorem State.sameResults_complete (a b c d : Word) (s s' : State) :
    (s.complete a b c d).sameResults (s'.complete a b c d) :=
  ⟨rfl, rfl, rfl, rfl, rfl⟩

theorem State.sameResults_decodeFail (p q : Bool) (s s' : State) :
    (s.decodeFail p q).sameResults (s'.decodeFail p q) :=
  ⟨rfl, rfl, rfl, rfl, rfl⟩

/-- Frames that are valid in the same fields end with the same results (R103). -/
theorem State.sameResults_decodeFrame {s s' : State} (h0 : fieldValid s'.in0 = fieldValid s.in0)
    (h1 : fieldValid s'.in1 = fieldValid s.in1) (a b c d : Word) :
    (s.decodeFrame a b c d).sameResults (s'.decodeFrame a b c d) := by
  simp only [State.decodeFrame, h0, h1]
  split
  · exact State.sameResults_complete a b c d s s'
  · exact State.sameResults_decodeFail _ _ s s'

/-- The results of a command are a function of the operand bits it reads (R62). -/
theorem exec_sameResults_of_operandsAgree {i : Instr} {s s' : State} (h : operandsAgree i s s') :
    ∃ t t', exec i s = .next t ∧ exec i s' = .next t' ∧ t.sameResults t' := by
  cases i
  case crcCompute | convT | convRh | convQ88 =>
    have h0 : low16 s'.in0 = low16 s.in0 := h
    refine ⟨_, _, rfl, rfl, ?_⟩
    rw [h0]
    exact State.sameResults_complete _ _ _ _ s s'
  case crcVerify =>
    obtain ⟨h0, h1⟩ : low16 s'.in0 = low16 s.in0 ∧ low8 s'.in1 = low8 s.in1 := h
    refine ⟨_, _, rfl, rfl, ?_⟩
    rw [h0, h1]
    exact State.sameResults_complete _ _ _ _ s s'
  case crcStep =>
    obtain ⟨h0, h1⟩ : low8 s'.in0 = low8 s.in0 ∧ low8 s'.in1 = low8 s.in1 := h
    refine ⟨_, _, rfl, rfl, ?_⟩
    rw [h0, h1]
    exact State.sameResults_complete _ _ _ _ s s'
  case decodeMeas | decodeSerial =>
    have h0 : field s'.in0 = field s.in0 := field_eq_of_low24_eq h.1
    have h1 : field s'.in1 = field s.in1 := field_eq_of_low24_eq h.2
    refine ⟨_, _, rfl, rfl, ?_⟩
    rw [h0, h1]
    exact State.sameResults_decodeFrame (fieldValid_eq_of_field_eq h0) (fieldValid_eq_of_field_eq h1) _ _ _ _

/-- A command never sets ILLEGAL (R33). -/
theorem illegalFlag_of_exec {i : Instr} {s t : State} (h : exec i s = .next t) : illegalFlag t.status = false := by
  rcases exec_cases h with ⟨a, b, c, d, rfl⟩ | ⟨-, -, rfl⟩
  · exact illegalFlag_statusOk
  · exact illegalFlag_statusDecodeFail _ _

end Sys2Proof.Machine
end

section
/-! The statements about command words, operand fields and pseudo-instructions (R60 to R69). -/

namespace Sys2Proof.Machine

/-- Settles O2: the legal words are the encodings, which are what decodes and what the opcode map lists. -/
theorem decodeAcceptsExactlyTheEncodings : Obligations.DecodeAcceptsExactlyTheEncodings := by
  refine ⟨decode_eq_ok_iff, fun w => ?_, fun w => ?_, rfl, rfl, rfl, rfl, rfl, rfl, rfl, rfl⟩
  · rw [legalWord_iff, exists_decode_ok_iff]
  · rw [legalWord_iff, ← mem_map_opcodes_iff]
    rfl

/-- Settles O3: each check rejects by its own name, and either one makes the word illegal. -/
theorem illegalWordsWriteOnlyStatus : Obligations.IllegalWordsWriteOnlyStatus := by
  refine fun w => ⟨decode_eq_reservedNotZero_iff w, ?_, fun h s => ?_⟩
  · rw [decode_eq_unlistedOpcode_iff, not_mem_opcodes_iff_ranges]
  · exact execute_of_illegal ((legalWord_eq_false_iff w).mpr h) s

/-- Settles O4: Execute of a command's word, and of a word that is no command's. -/
theorem executeFollowsTheDecoder : Obligations.ExecuteFollowsTheDecoder :=
  ⟨execute_encode, fun _ s h => execute_of_illegal (legalWord_eq_false_of_forall_ne_encode h) s⟩

/-- Settles O5: the place of each byte in a packed field, and the two fields' 24 bits joined. -/
theorem framePackingIsBigEndian : Obligations.FramePackingIsBigEndian := by
  intro f0 f1 f2 f3 f4 f5
  refine ⟨packField_firstByte f0 f1 f2, packField_secondByte f0 f1 f2, packField_checksum f0 f1 f2,
    field_packField f0 f1 f2, ?_⟩
  rw [packField_low24, packField_low24]
  exact append_threeBytes (f0 ++ f1 ++ f2) f3 f4 f5

/-- Settles O6: a command's results depend only on the operand bits it reads, and are never an illegal word's. -/
theorem unreadOperandBitsAreIgnored : Obligations.UnreadOperandBitsAreIgnored := by
  intro i s s' hagree
  obtain ⟨t, t', ht, ht', hsame⟩ := exec_sameResults_of_operandsAgree hagree
  exact ⟨t, t', (execute_encode i s).trans ht, (execute_encode i s').trans ht', hsame, illegalFlag_of_exec ht⟩

/-- Settles O1: the listed words are encodings of their commands. -/
theorem listedWordsDecode : Obligations.ListedWordsDecode :=
  ⟨decode_encode .crcCompute, decode_encode .crcStep, decode_encode .decodeMeas, decode_encode .decodeSerial,
    decode_encode .convT, decode_encode .convQ88⟩

/-- Settles O7: each expansion is the definition's, with the operand's extension and the command's word written out. -/
theorem pseudoInstructionExpansions : Obligations.PseudoInstructionExpansions :=
  fun _ _ _ _ _ _ _ _ _ _ => ⟨rfl, rfl, rfl, rfl, rfl, rfl, rfl, rfl⟩

end Sys2Proof.Machine
end

section
/-! R80 to R84, R90: the ROM is eight generator steps, each of them injective, so the ROM is a permutation and the table step a bijection in each argument. -/

namespace Sys2Proof.Machine

/-- The listing of R81, entry by entry, is the bit-serial form. -/
theorem rom_eq_crcBits8 (i : Byte) : rom i = crcBits8 i := by
  revert i
  decide

/-- The table-driven CRC is the bit-serial one (R84). -/
theorem crc8_eq_crc8BitSerial (v : Half) : crc8 v = crc8BitSerial v := by
  simp only [crc8, crcStep, rom_eq_crcBits8, crc8BitSerial]

/-- The bit shifted out comes back as bit 0, the polynomial being odd (R80). -/
theorem getLsbD_zero_crcBitStep (x : Byte) : (crcBitStep x).getLsbD 0 = x.getLsbD 7 := by
  cases hx : x.getLsbD 7 <;> rw [crcBitStep, hx] <;> simp [crcPoly]

/-- The generator step loses nothing: bit 0 tells whether the polynomial was added, and the rest is the shifted byte. -/
theorem crcBitStep_injective : Function.Injective crcBitStep := by
  intro x y h
  have htop : x.getLsbD 7 = y.getLsbD 7 := by
    rw [← getLsbD_zero_crcBitStep, h, getLsbD_zero_crcBitStep]
  have hshift : x <<< 1 = y <<< 1 := by
    rw [crcBitStep, crcBitStep, htop] at h
    exact (BitVec.xor_left_inj _).mp h
  refine BitVec.eq_of_getLsbD_eq fun k hk => ?_
  rcases Nat.lt_or_ge k 7 with hlow | hhigh
  · have hbit := congrArg (BitVec.getLsbD · (k + 1)) hshift
    have hk1 : k + 1 < 8 := Nat.succ_lt_succ hlow
    simpa [hk, hk1] using hbit
  · obtain rfl : k = 7 := by omega
    exact htop

theorem rom_injective : Function.Injective rom := by
  rw [funext rom_eq_crcBits8]
  exact crcBitStep_injective.iterate 8

theorem rom_bijective : Function.Bijective rom :=
  Finite.injective_iff_bijective.mp rom_injective

@[simp] theorem rom_zero : rom 0x00#8 = 0x00#8 := by
  decide

theorem rom_eq_zero_iff (j : Byte) : rom j = 0x00#8 ↔ j = 0x00#8 :=
  rom_injective.eq_iff' rom_zero

theorem crcStep_right_injective (acc : Byte) : Function.Injective fun b => crcStep acc b :=
  fun _ _ h => (BitVec.xor_right_inj acc).mp (rom_injective h)

theorem crcStep_left_injective (b : Byte) : Function.Injective fun acc => crcStep acc b :=
  fun _ _ h => (BitVec.xor_left_inj b).mp (rom_injective h)

/-- A table step gives 0 exactly when the byte is the accumulator (R91). -/
theorem crcStep_eq_zero_iff (acc b : Byte) : crcStep acc b = 0x00#8 ↔ acc = b := by
  rw [crcStep, rom_eq_zero_iff, BitVec.xor_eq_zero_iff]

/-- Settles O32: on the finite set of bytes each injection is a bijection. -/
theorem romIsAPermutation : Obligations.RomIsAPermutation :=
  ⟨rom_bijective, fun acc => Finite.injective_iff_bijective.mp (crcStep_right_injective acc),
    fun b => Finite.injective_iff_bijective.mp (crcStep_left_injective b)⟩

/-- Settles O26: `crc8` computes from the ROM, whose entries are the bit-serial form's. -/
theorem crcEqualsBitSerialCrc : Obligations.CrcEqualsBitSerialCrc :=
  crc8_eq_crc8BitSerial

/-- Settles O24: `crcBits8` is the eight steps, written out. -/
theorem romIsGeneratedFromThePolynomial : Obligations.RomIsGeneratedFromThePolynomial :=
  ⟨fun _ => rfl, rfl, rom_eq_crcBits8, by decide, by decide, by decide⟩

/-- Settles O25: both clauses are the definitions, with the initial value and the two bytes written out. -/
theorem crcTakesTheHighByteFirst : Obligations.CrcTakesTheHighByteFirst :=
  ⟨fun _ _ => rfl, fun _ => rfl⟩

/-- Settles O31: the four values of R89, computed. -/
theorem crcDependsOnByteOrder : Obligations.CrcDependsOnByteOrder := by
  unfold Obligations.CrcDependsOnByteOrder
  decide

end Sys2Proof.Machine
end

section
/-! R91, R92: which fields leave no residue and which values have a zero CRC. -/

namespace Sys2Proof.Machine

/-- The CRC of two bytes joined is the table step over the one and then the other (R83). -/
theorem crc8_append (hi lo : Byte) : crc8 (hi ++ lo) = crcStep (crcStep crcInit hi) lo := by
  rw [crc8, highByte, lowByte, BitVec.extractLsb'_append_eq_left, BitVec.extractLsb'_append_eq_right]

/-- A zero CRC determines the low byte from the high byte (R92). -/
theorem crc8_eq_zero_iff (v : Half) : crc8 v = 0x00#8 ↔ crcStep crcInit (highByte v) = lowByte v :=
  crcStep_eq_zero_iff _ _

/-- The residue over a field is 0 exactly when the field is valid (R91). -/
theorem residue_eq_zero_iff_fieldValid (w : Word) :
    crcStep (crcStep (crcStep crcInit (w.extractLsb' 16 8)) (w.extractLsb' 8 8)) (w.extractLsb' 0 8) = 0x00#8 ↔
      fieldValid w = true := by
  rw [crcStep_eq_zero_iff, fieldValid_iff, extractLsb'_value_eq_append, crc8_append]

theorem toNat_eq_highByte_lowByte (v : Half) : v.toNat = (highByte v).toNat * 256 + (lowByte v).toNat := by
  simp only [highByte, lowByte, BitVec.extractLsb'_toNat, Nat.shiftRight_eq_div_pow]
  omega

/-- No value below 0x00AC has a zero CRC: with the high byte 0 only 0x00AC has one (R92). -/
theorem le_toNat_of_crc8_eq_zero {v : Half} (h : crc8 v = 0x00#8) : 0x00AC ≤ v.toNat := by
  have hlow := (crc8_eq_zero_iff v).mp h
  rw [toNat_eq_highByte_lowByte, ← hlow]
  by_cases hhigh : highByte v = 0x00#8
  · rw [hhigh]
    decide
  · have hpos : (highByte v).toNat ≠ 0 := fun h0 => hhigh (BitVec.eq_of_toNat_eq h0)
    omega

/-- Settles O33: the last table step compares the CRC with the checksum byte. -/
theorem zeroResidueOfValidFields : Obligations.ZeroResidueOfValidFields :=
  ⟨rom_zero, fun _ => (crcStep_eq_zero_iff _ _).mpr rfl, residue_eq_zero_iff_fieldValid⟩

/-- Settles O34: the low byte with a zero CRC is the table step of the high byte from 0xFF. -/
theorem zeroCrcValues : Obligations.ZeroCrcValues := by
  refine ⟨by decide, fun j => (rom_eq_zero_iff j).mp, fun v => (crc8_eq_zero_iff v).trans eq_comm,
    fun hi => ⟨crcStep crcInit hi, ?_, fun lo hlo => ?_⟩, by decide, fun _ => le_toNat_of_crc8_eq_zero, by decide⟩
  · exact (crc8_append hi _).trans ((crcStep_eq_zero_iff _ _).mpr rfl)
  · exact ((crcStep_eq_zero_iff _ _).mp ((crc8_append hi lo).symm.trans hlo)).symm

end Sys2Proof.Machine
end

section
/-! R85 to R88: the three checksum commands, and the detection of a change within one byte. -/

namespace Sys2Proof.Machine

theorem exec_crcCompute (s : State) :
    exec .crcCompute s = .next (s.complete (zext32 (crc8 (low16 s.in0))) 0#32 0#32 0#32) := rfl

theorem exec_crcVerify (s : State) :
    exec .crcVerify s = .next (s.complete (if crc8 (low16 s.in0) = low8 s.in1 then 0x00000001#32 else 0x00000000#32)
      (zext32 (crc8 (low16 s.in0))) 0#32 0#32) := rfl

theorem exec_crcStep (s : State) :
    exec .crcStep s = .next (s.complete (zext32 (crcStep (low8 s.in0) (low8 s.in1))) 0#32 0#32 0#32) := rfl

theorem exec_crcVerify_of_match {s : State} (h : crc8 (low16 s.in0) = low8 s.in1) :
    ∃ t, exec .crcVerify s = .next t ∧ t.out0 = 0x00000001#32 :=
  ⟨_, exec_crcVerify s, if_pos h⟩

theorem exec_crcVerify_of_mismatch {s : State} (h : crc8 (low16 s.in0) ≠ low8 s.in1) :
    ∃ t, exec .crcVerify s = .next t ∧ t.out0 = 0x00000000#32 :=
  ⟨_, exec_crcVerify s, if_neg h⟩

/-- The CRC tells apart any two values with the same low byte (R88). -/
theorem highByte_eq_of_crc8_eq {v w : Half} (h : crc8 v = crc8 w) (hlow : lowByte v = lowByte w) :
    highByte v = highByte w := by
  rw [crc8, crc8, hlow] at h
  exact crcStep_right_injective _ (crcStep_left_injective _ h)

/-- The CRC tells apart any two values with the same high byte (R88). -/
theorem lowByte_eq_of_crc8_eq {v w : Half} (h : crc8 v = crc8 w) (hhigh : highByte v = highByte w) :
    lowByte v = lowByte w := by
  rw [crc8, crc8, hhigh] at h
  exact crcStep_right_injective _ h

@[simp] theorem highByte_xor (v e : Half) : highByte (v ^^^ e) = highByte v ^^^ highByte e :=
  BitVec.extractLsb'_xor

@[simp] theorem lowByte_xor (v e : Half) : lowByte (v ^^^ e) = lowByte v ^^^ lowByte e :=
  BitVec.extractLsb'_xor

theorem xor_ne_self {n : Nat} (x : BitVec n) {e : BitVec n} (he : e ≠ 0#n) : x ^^^ e ≠ x := fun h =>
  he ((BitVec.xor_right_inj x).mp (h.trans BitVec.xor_zero.symm))

/-- An error pattern confined to one of the two bytes is always detected (R88). -/
theorem crc8_xor_ne {e : Half} (he : highByte e = 0#8 ∧ lowByte e ≠ 0#8 ∨ highByte e ≠ 0#8 ∧ lowByte e = 0#8)
    (v : Half) : crc8 (v ^^^ e) ≠ crc8 v := by
  intro h
  rcases he with ⟨hhigh, hlow⟩ | ⟨hhigh, hlow⟩
  · refine xor_ne_self (lowByte v) hlow ?_
    rw [← lowByte_xor]
    exact lowByte_eq_of_crc8_eq h (by simp [hhigh])
  · refine xor_ne_self (highByte v) hhigh ?_
    rw [← highByte_xor]
    exact highByte_eq_of_crc8_eq h (by simp [hlow])

/-- A single bit of a 16-bit value stands in exactly one of its bytes. -/
theorem singleBit_inOneByte : ∀ k < 16,
    highByte (1#16 <<< k) = 0#8 ∧ lowByte (1#16 <<< k) ≠ 0#8 ∨
      highByte (1#16 <<< k) ≠ 0#8 ∧ lowByte (1#16 <<< k) = 0#8 := by
  decide

/-- R88 for the value. -/
theorem crc8_flipBit_ne (v : Half) {k : Nat} (hk : k < 16) : crc8 (v ^^^ (1#16 <<< k)) ≠ crc8 v :=
  crc8_xor_ne (singleBit_inOneByte k hk) v

/-- R88 for the expected byte. -/
theorem byte_flipBit_ne (b : Byte) {k : Nat} (hk : k < 8) : b ^^^ (1#8 <<< k) ≠ b := by
  refine xor_ne_self b ?_
  revert k
  decide

/-- A bit flipped in a register is flipped in its low field. -/
theorem extractLsb'_flipBit (w : Word) {m : Nat} (hm : m ≤ 32) (k : Nat) :
    (w ^^^ (1#32 <<< k)).extractLsb' 0 m = w.extractLsb' 0 m ^^^ (1#m <<< k) := by
  rw [← BitVec.setWidth_eq_extractLsb' hm, ← BitVec.setWidth_eq_extractLsb' hm, BitVec.setWidth_xor,
    BitVec.setWidth_shiftLeft_of_le hm, BitVec.setWidth_ofNat_of_le hm]

/-- Settles O27: the command's result, the fields and extensions being their definitions, and the rule's values. -/
theorem crcComputeResult : Obligations.CrcComputeResult :=
  ⟨rfl, exec_crcCompute, by decide, by decide, by decide, by decide⟩

/-- Settles O29: the command's result, the table step being its ROM entry, and the rule's values. -/
theorem crcStepResult : Obligations.CrcStepResult :=
  ⟨rfl, exec_crcStep, rom_zero, by decide⟩

/-- Settles O28: the command's result, and R88 for each of the 24 bits of a matching pair. -/
theorem crcVerifyResult : Obligations.CrcVerifyResult := by
  refine ⟨rfl, exec_crcVerify, ?_, by decide⟩
  rintro v _ rfl
  exact ⟨fun k hk => crc8_flipBit_ne v hk, fun k hk => (byte_flipBit_ne _ hk).symm⟩

/-- Settles O30: a flipped bit of either operand makes a matching pair a mismatch. -/
theorem singleBitErrorsAreDetected : Obligations.SingleBitErrorsAreDetected := by
  refine ⟨fun v k hk => crc8_flipBit_ne v hk, fun s hmatch => ⟨exec_crcVerify_of_match hmatch, ?_, ?_⟩⟩
  · intro k hk
    refine exec_crcVerify_of_mismatch ?_
    rw [low16, low8, extractLsb'_flipBit s.in0 (by decide) k, ← hmatch]
    exact crc8_flipBit_ne _ hk
  · intro k hk
    refine exec_crcVerify_of_mismatch ?_
    rw [low16, low8, extractLsb'_flipBit s.in1 (by decide) k, hmatch]
    exact (byte_flipBit_ne _ hk).symm

end Sys2Proof.Machine
end

section
/-! R93: the host's streaming CRC. -/

namespace Sys2Proof.Machine

@[simp] theorem low8_zext32 (b : Byte) : low8 (zext32 b) = b := by
  rw [low8, zext32, BitVec.extractLsb'_setWidth_of_le (by decide), BitVec.extractLsb'_eq_self]

/-- One byte of the stream from an accumulator in IN0: IN0 and OUT0 are the table step, and one word has come back. -/
theorem streamByte_next (b : Byte) {acc : Byte} {s : State} (hacc : s.in0 = zext32 acc) :
    ∃ t, streamByte b s = .next t ∧ t.in0 = zext32 (crcStep acc b) ∧ t.out0 = t.in0 ∧
      t.received.length = s.received.length + 1 := by
  have hcmd : perform (.write 0#4 (encode .crcStep)) (s.writeIn1 (zext32 b)) =
      .next ((s.writeIn1 (zext32 b)).complete (zext32 (crcStep acc b)) 0#32 0#32 0#32) := by
    rw [perform_write_cmd, execute_encode, exec_crcStep, State.writeIn1_in0, State.writeIn1_in1, hacc, low8_zext32,
      low8_zext32]
  have hbyte : streamByte b s =
      andThen (perform (.write 0#4 (encode .crcStep)) (s.writeIn1 (zext32 b))) fun s2 =>
        andThen (perform (.read 4#4) s2) fun s3 => perform (.write 2#4 (s2.readWord 4#4)) s3 := rfl
  rw [hcmd] at hbyte
  exact ⟨_, hbyte, rfl, rfl, List.length_append⟩

/-- The loop over a string from an accumulator in IN0 ends with the fold in IN0. OUT0 is the same word if a byte was streamed, or if it was so at the start. -/
theorem streamBytes_next (bytes : List Byte) {acc : Byte} {s : State} (hacc : s.in0 = zext32 acc) :
    ∃ t, streamBytes bytes s = .next t ∧ t.in0 = zext32 (bytes.foldl crcStep acc) ∧
      t.received.length = s.received.length + bytes.length ∧ (s.out0 = s.in0 ∨ bytes ≠ [] → t.out0 = t.in0) := by
  induction bytes generalizing acc s with
  | nil => exact ⟨s, rfl, hacc, rfl, fun h => h.resolve_right (· rfl)⟩
  | cons b bs ih =>
    obtain ⟨u, hu, hin0, hout0, hlen⟩ := streamByte_next b hacc
    obtain ⟨t, ht, htin0, htlen, htout0⟩ := ih hin0
    refine ⟨t, ?_, htin0, ?_, fun _ => htout0 (.inl hout0)⟩
    · rw [streamBytes, hu]
      exact ht
    · rw [htlen, hlen, List.length_cons]
      omega

/-- Settles O35: the loop's induction over the string, from the initial value 0xFF. -/
theorem streamingComputesTheCrcOfAString : Obligations.StreamingComputesTheCrcOfAString := by
  refine ⟨fun bytes s hs => ?_, fun _ => rfl⟩
  obtain ⟨t, ht, hin0, hlen, hout0⟩ := streamBytes_next bytes (acc := crcInit) hs
  exact ⟨t, ht, hin0, hlen, fun hne => (hout0 (.inr hne)).trans hin0⟩

end Sys2Proof.Machine
end

section
/-! R101 to R105: the two decode commands, by which fields of the frame are valid. -/

namespace Sys2Proof.Machine

/-- The STATUS of R103, field by field. -/
theorem statusDecodeFail_eq (ok0 ok1 : Bool) :
    statusDecodeFail ok0 ok1 = (if ok0 then 0x0#32 else 0x2#32) ||| (if ok1 then 0x0#32 else 0x4#32) := by
  cases ok0 <;> cases ok1 <;> rfl

theorem statusDecodeFail_ne_statusOk (ok0 ok1 : Bool) : statusDecodeFail ok0 ok1 ≠ statusOk := by
  cases ok0 <;> cases ok1 <;> decide

/-- A frame with an invalid field is not valid in both (R103). -/
theorem not_validFrame {s : State} (hinvalid : fieldValid s.in0 = false ∨ fieldValid s.in1 = false) :
    ¬ (fieldValid s.in0 = true ∧ fieldValid s.in1 = true) := by
  rcases hinvalid with h | h <;> simp [h]

/-- A decode with the success and the failure registers written out (R102, R103, R104). -/
theorem State.decodeFrame_eq_ite (a b c d : Word) (s : State) :
    s.decodeFrame a b c d =
      if crc8 (s.in0.extractLsb' 8 16) = s.in0.extractLsb' 0 8 ∧
          crc8 (s.in1.extractLsb' 8 16) = s.in1.extractLsb' 0 8 then
        { s with out0 := a, out1 := b, out2 := c, out3 := d, status := 0x00000001#32 }
      else
        { s with
          out0 := 0x00000000#32, out1 := 0x00000000#32, out2 := 0x00000000#32, out3 := 0x00000000#32,
          status := (if crc8 (s.in0.extractLsb' 8 16) = s.in0.extractLsb' 0 8 then 0x0#32 else 0x2#32) |||
            (if crc8 (s.in1.extractLsb' 8 16) = s.in1.extractLsb' 0 8 then 0x0#32 else 0x4#32) } := by
  simp only [← fieldValid_iff]
  rcases State.decodeFrame_cases a b c d s with ⟨h0, h1, h⟩ | ⟨hinvalid, h⟩
  · rw [h, if_pos ⟨h0, h1⟩]
    rfl
  · rw [h, if_neg (not_validFrame hinvalid), ← statusDecodeFail_eq]
    rfl

theorem exec_decodeMeas (s : State) :
    exec .decodeMeas s = .next (s.decodeFrame
      (toS32 (tempMilli (field s.in0).1)) (toS32 (rhMilli (field s.in1).1))
      (zext32 (field s.in0).1) (zext32 (field s.in1).1)) := rfl

theorem exec_decodeSerial (s : State) :
    exec .decodeSerial s = .next (s.decodeFrame ((field s.in0).1 ++ (field s.in1).1)
      (zext32 (field s.in0).1) (zext32 (field s.in1).1) 0#32) := rfl

/-- A decode of a frame with an invalid field is `DecodeFail` of its two fields (R103). -/
theorem exec_of_invalidFrame {i : Instr} (hi : isDecode i) {s : State}
    (hinvalid : fieldValid s.in0 = false ∨ fieldValid s.in1 = false) :
    exec i s = .next (s.decodeFail (fieldValid s.in0) (fieldValid s.in1)) := by
  obtain ⟨a, b, c, d, h⟩ := exec_of_isDecode hi s
  rw [h, State.decodeFrame_of_invalid hinvalid]

/-- What a decode leaves: OK exactly for a frame valid in both fields, and otherwise zero outputs (R106). -/
theorem exec_noPartialResult {i : Instr} (hi : isDecode i) (s : State) : ∃ t, exec i s = .next t ∧
    (t.status = statusOk ↔ fieldValid s.in0 = true ∧ fieldValid s.in1 = true) ∧
    (t.status ≠ statusOk → t.out0 = 0#32 ∧ t.out1 = 0#32 ∧ t.out2 = 0#32 ∧ t.out3 = 0#32) := by
  rcases exec_outcomes i s with ⟨hvalid, a, b, c, d, h⟩ | ⟨-, hinvalid, h⟩
  · exact ⟨_, h, iff_of_true rfl (hvalid hi), fun hne => absurd rfl hne⟩
  · exact ⟨_, h, iff_of_false (statusDecodeFail_ne_statusOk _ _) (not_validFrame hinvalid), fun _ => ⟨rfl, rfl, rfl, rfl⟩⟩

theorem validFrame_of_status_eq_ok {i : Instr} (hi : isDecode i) {s t : State} (h : exec i s = .next t)
    (hok : t.status = statusOk) : fieldValid s.in0 = true ∧ fieldValid s.in1 = true := by
  obtain ⟨u, hu, hiff, -⟩ := exec_noPartialResult hi s
  rw [h] at hu
  cases hu
  exact hiff.mp hok

/-- A valid field does not say which of the two it is, so a valid frame is valid with its fields swapped (R102). -/
theorem exec_status_swapped {i : Instr} (hi : isDecode i) {s t : State} (h : exec i s = .next t)
    (hok : t.status = statusOk) :
    ∃ u, exec i { s with in0 := s.in1, in1 := s.in0 } = .next u ∧ u.status = statusOk := by
  obtain ⟨u, hu, hiff, -⟩ := exec_noPartialResult hi { s with in0 := s.in1, in1 := s.in0 }
  exact ⟨u, hu, hiff.mpr (validFrame_of_status_eq_ok hi h hok).symm⟩

/-- The serial number's two halves joined (R104). -/
theorem append_eq_shiftLeft_or (hi lo : Half) :
    hi ++ lo = (hi.setWidth 32 <<< 16 ||| lo.setWidth 32 : Word) := by
  rw [BitVec.append_def, BitVec.shiftLeftZeroExtend_eq, BitVec.setWidth'_eq]

end Sys2Proof.Machine
end

section
/-! R107: an error pattern within one byte of a valid field makes it invalid. -/

namespace Sys2Proof.Machine

theorem field_xor (w e : Word) :
    field (w ^^^ e) = ((field w).1 ^^^ (field e).1, (field w).2 ^^^ (field e).2) := by
  rw [field, BitVec.extractLsb'_xor, BitVec.extractLsb'_xor]
  rfl

/-- A changed checksum byte no longer is the CRC of the value (R107). -/
theorem fieldValid_xor_of_checksumError {w e : Word} {d : Byte} (hw : fieldValid w = true)
    (he : field e = (0#16, d)) (hd : d ≠ 0#8) : fieldValid (w ^^^ e) = false := by
  have hcrc : crc8 (field w).1 = (field w).2 := (fieldValid_iff w).mp hw
  rw [fieldValid, field_xor, he, BitVec.xor_zero, hcrc, beq_eq_false_iff_ne]
  exact (xor_ne_self _ hd).symm

/-- A flipped bit of the value changes its CRC, and the checksum byte stays (R88, R107). -/
theorem fieldValid_xor_of_valueBitError {w e : Word} {j : Nat} (hw : fieldValid w = true) (hj : j < 16)
    (he : field e = (1#16 <<< j, 0#8)) : fieldValid (w ^^^ e) = false := by
  have hcrc : crc8 (field w).1 = (field w).2 := (fieldValid_iff w).mp hw
  rw [fieldValid, field_xor, he, BitVec.xor_zero, ← hcrc, beq_eq_false_iff_ne]
  exact crc8_flipBit_ne _ hj

/-- Bits 7 to 0 of a register stand in the checksum byte, bits 23 to 8 in the value (R100). -/
theorem field_singleBit : ∀ k < 24,
    field (1#32 <<< k) = if k < 8 then (0#16, 1#8 <<< k) else (1#16 <<< (k - 8), 0#8) := by
  decide

theorem singleBit_ne_zero : ∀ k < 8, 1#8 <<< k ≠ 0#8 := by
  decide

/-- R107 for a single bit of a field. -/
theorem fieldValid_flipBit {w : Word} (hw : fieldValid w = true) {k : Nat} (hk : k < 24) :
    fieldValid (w ^^^ (1#32 <<< k)) = false := by
  have hfield := field_singleBit k hk
  rcases Nat.lt_or_ge k 8 with hlow | hhigh
  · rw [if_pos hlow] at hfield
    exact fieldValid_xor_of_checksumError hw hfield (singleBit_ne_zero k hlow)
  · rw [if_neg hhigh.not_gt] at hfield
    exact fieldValid_xor_of_valueBitError hw (by omega) hfield

/-- A byte widened to a register stands in the checksum byte of its field, below a zero value (R100). -/
theorem field_setWidth (d : Byte) : field (d.setWidth 32) = (0#16, d) := by
  have hvalue : d.extractLsb' 8 16 = 0#16 := BitVec.eq_of_getLsbD_eq fun k hk => by simp
  rw [field, BitVec.extractLsb'_setWidth_of_le (by decide), hvalue,
    BitVec.extractLsb'_setWidth_of_le (by decide), BitVec.extractLsb'_eq_self]

/-- R107 for any change of a checksum byte. -/
theorem fieldValid_changeChecksum {w : Word} (hw : fieldValid w = true) {d : Byte} (hd : d ≠ 0#8) :
    fieldValid (w ^^^ d.setWidth 32) = false :=
  fieldValid_xor_of_checksumError hw (field_setWidth d) hd

/-- A decode with field 0 alone invalid reports CRC0_ERR alone (R105). -/
theorem exec_status_crc0Err {i : Instr} (hi : isDecode i) {s : State} (h0 : fieldValid s.in0 = false)
    (h1 : fieldValid s.in1 = true) : ∃ t, exec i s = .next t ∧ t.status = 0x00000002#32 :=
  ⟨_, exec_of_invalidFrame hi (.inl h0), by rw [State.decodeFail_status, h0, h1]; rfl⟩

/-- A decode with field 1 alone invalid reports CRC1_ERR alone (R105). -/
theorem exec_status_crc1Err {i : Instr} (hi : isDecode i) {s : State} (h0 : fieldValid s.in0 = true)
    (h1 : fieldValid s.in1 = false) : ∃ t, exec i s = .next t ∧ t.status = 0x00000004#32 :=
  ⟨_, exec_of_invalidFrame hi (.inr h1), by rw [State.decodeFail_status, h0, h1]; rfl⟩

end Sys2Proof.Machine
end

section
/-! The statements about the frame-decode family (R102 to R107). -/

namespace Sys2Proof.Machine

/-- Settles O36: the shared decode with the measurement's registers, and the rule's values computed. -/
theorem decodeMeasResult : Obligations.DecodeMeasResult := by
  refine ⟨rfl, fun s => ?_, fun s t h hok => exec_status_swapped (.inl rfl) h hok, ?_⟩
  · rw [exec_decodeMeas, State.decodeFrame_eq_ite]
    rfl
  · decide

/-- Settles O37: the shared decode with the serial number's registers, and the rule's checksums computed. -/
theorem decodeSerialResult : Obligations.DecodeSerialResult := by
  refine ⟨rfl, fun s => ?_, by decide⟩
  rw [exec_decodeSerial, State.decodeFrame_eq_ite, append_eq_shiftLeft_or]
  rfl

/-- Settles O38: `ok0` and `ok1` are the validity of the two fields, and the decode is `DecodeFail` of them. -/
theorem failedDecodeZeroesTheOutputs : Obligations.FailedDecodeZeroesTheOutputs := by
  intro i s hi ok0 ok1 h0 h1 hinvalid
  obtain rfl : ok0 = fieldValid s.in0 := Bool.eq_iff_iff.mpr (h0.trans (fieldValid_iff s.in0).symm)
  obtain rfl : ok1 = fieldValid s.in1 := Bool.eq_iff_iff.mpr (h1.trans (fieldValid_iff s.in1).symm)
  rw [exec_of_invalidFrame hi hinvalid, ← statusDecodeFail_eq]
  rfl

/-- Settles O39: each flag of R24 reports its own field, and a decode with both invalid is `DecodeFail` of both. -/
theorem bothFieldsAreAlwaysChecked : Obligations.BothFieldsAreAlwaysChecked := by
  intro i s hi
  obtain ⟨t, ht, -, h0, h1, -⟩ := exec_statusFields i s
  simp only [← fieldValid_eq_false_iff]
  refine ⟨t, ht, h0.trans (and_iff_right hi), h1.trans (and_iff_right hi), fun hf0 hf1 => ?_⟩
  rw [exec_of_invalidFrame hi (.inl hf0), hf0, hf1] at ht
  cases ht
  rfl

/-- Settles O40: the two outcomes of a decode. -/
theorem noPartialResult : Obligations.NoPartialResult := fun _ s hi =>
  exec_noPartialResult hi s

/-- Settles O41: the change makes its field invalid, and the other field stays valid. -/
theorem corruptFramesAreRejected : Obligations.CorruptFramesAreRejected := fun _ _ hi h0 h1 =>
  ⟨fun _ hk => exec_status_crc0Err hi (fieldValid_flipBit h0 hk) h1,
    fun _ hk => exec_status_crc1Err hi h0 (fieldValid_flipBit h1 hk),
    fun _ hd => exec_status_crc0Err hi (fieldValid_changeChecksum h0 hd) h1,
    fun _ hd => exec_status_crc1Err hi h0 (fieldValid_changeChecksum h1 hd)⟩

end Sys2Proof.Machine
end

section
/-! R121, R123, R124: rounding to nearest over the odd divisor 65535, and the two functions that round so. -/

namespace Sys2Proof.Machine

/-- Rounding `n / 65535` to nearest by `(n + 32767) div 65535` is off by less than 1/2: twice the error times 65535 is even, so it stays below the odd 65535 (R123). -/
theorem abs_roundDiv_sub_lt (n : ℤ) : |(((n + 32767) / 65535 : ℤ) : ℚ) - n / 65535| < 1 / 2 := by
  have hlo : n ≤ 65535 * ((n + 32767) / 65535) + 32767 := by omega
  have hhi : 65535 * ((n + 32767) / 65535) ≤ n + 32767 := by omega
  have hlo' : (n : ℚ) ≤ 65535 * ((n + 32767) / 65535 : ℤ) + 32767 := by exact_mod_cast hlo
  have hhi' : 65535 * (((n + 32767) / 65535 : ℤ) : ℚ) ≤ n + 32767 := by exact_mod_cast hhi
  rw [abs_lt]
  constructor <;> linarith

/-- An integer offset is exact, so the error is that of the rounded division. -/
theorem abs_offset_add_roundDiv_sub_lt (c n : ℤ) :
    |((c + (n + 32767) / 65535 : ℤ) : ℚ) - (c + n / 65535)| < 1 / 2 := by
  rw [Int.cast_add, add_sub_add_left_eq_sub]
  exact abs_roundDiv_sub_lt n

/-- An integer less than 1/2 away from `x` is nearer to `x` than every other integer. -/
theorem abs_sub_lt_abs_sub_of_ne {a m : ℤ} {x : ℚ} (ha : |(a : ℚ) - x| < 1 / 2) (hm : m ≠ a) :
    |(a : ℚ) - x| < |(m : ℚ) - x| := by
  have hgap : (1 : ℚ) ≤ |(m : ℚ) - a| := by exact_mod_cast Int.one_le_abs (sub_ne_zero.mpr hm)
  have htri : |(m : ℚ) - a| ≤ |(m : ℚ) - x| + |x - a| := abs_sub_le _ _ _
  rw [abs_sub_comm x] at htri
  linarith

theorem tempNum_eq_tExact (raw : Half) : (tempNum raw : ℚ) = 65535 * tExact raw := by
  rw [tempNum, tExact]
  push_cast
  ring

theorem rhNum_eq_rhExact (raw : Half) : (rhNum raw : ℚ) = 65535 * rhExact raw := by
  rw [rhNum, rhExact]
  push_cast
  ring

theorem thousand_mul_tExact (raw : Half) :
    1000 * tExact raw = (-45000 : ℤ) + (175000 * (raw.toNat : ℤ) : ℤ) / 65535 := by
  rw [tExact]
  push_cast
  ring

theorem thousand_mul_rhExact (raw : Half) :
    1000 * rhExact raw = (-6000 : ℤ) + (125000 * (raw.toNat : ℤ) : ℤ) / 65535 := by
  rw [rhExact]
  push_cast
  ring

/-- R123 for the temperature. -/
theorem abs_tempMilli_sub_exact_lt (raw : Half) : |(tempMilli raw : ℚ) - 1000 * tExact raw| < 1 / 2 := by
  rw [thousand_mul_tExact]
  exact abs_offset_add_roundDiv_sub_lt _ _

/-- R123 for the humidity. -/
theorem abs_rhMilli_sub_exact_lt (raw : Half) : |(rhMilli raw : ℚ) - 1000 * rhExact raw| < 1 / 2 := by
  rw [thousand_mul_rhExact]
  exact abs_offset_add_roundDiv_sub_lt _ _

theorem tempMilli_mono {a b : Half} (h : a.toNat ≤ b.toNat) : tempMilli a ≤ tempMilli b := by
  rw [tempMilli, tempMilli]
  omega

theorem rhMilli_mono {a b : Half} (h : a.toNat ≤ b.toNat) : rhMilli a ≤ rhMilli b := by
  rw [rhMilli, rhMilli]
  omega

/-- Settles O46: an error below 1/2 makes temp_milli the nearest integer. -/
theorem tempMilliIsTheNearestInteger : Obligations.TempMilliIsTheNearestInteger := fun raw =>
  ⟨rfl, rfl, tempNum_eq_tExact raw, rfl, fun _ => abs_sub_lt_abs_sub_of_ne (abs_tempMilli_sub_exact_lt raw)⟩

/-- Settles O47: an error below 1/2 makes rh_milli the nearest integer. -/
theorem rhMilliIsTheNearestInteger : Obligations.RhMilliIsTheNearestInteger := fun raw =>
  ⟨rfl, rfl, rhNum_eq_rhExact raw, rfl, fun _ => abs_sub_lt_abs_sub_of_ne (abs_rhMilli_sub_exact_lt raw)⟩

/-- Settles O48: a tie would make an even number odd, and the bound is that of any division by 65535 rounded so. -/
theorem roundingHasNoTies : Obligations.RoundingHasNoTies := by
  refine ⟨fun k _ raw => ⟨fun m htie => ?_, ?_⟩,
    fun raw => ⟨abs_tempMilli_sub_exact_lt raw, abs_rhMilli_sub_exact_lt raw⟩,
    fun a b hab => ⟨tempMilli_mono hab, rhMilli_mono hab⟩⟩
  · rw [mul_assoc] at htie
    omega
  · have hbound := abs_roundDiv_sub_lt (k * (raw.toNat : ℤ))
    rwa [Int.cast_mul, Int.cast_natCast] at hbound

end Sys2Proof.Machine
end

section
/-! R127, R129: the Q8.8 functions, and the error of q88_milli in thirty-seconds of a milli-degree. -/

namespace Sys2Proof.Machine

/-- The signed value of a Q8.8 code is the code's two's-complement value (R127). -/
theorem q88Signed_eq_toInt (raw : Half) : q88Signed raw = raw.toInt :=
  fromS32_sext32 raw

theorem q88Signed_range (raw : Half) : -32768 ≤ q88Signed raw ∧ q88Signed raw ≤ 32767 := by
  rw [q88Signed_eq_toInt]
  exact ⟨raw.le_toInt, Int.le_of_lt_add_one raw.toInt_lt⟩

theorem q88Signed_eq_ite (raw : Half) :
    q88Signed raw = if raw.toNat < 32768 then (raw.toNat : ℤ) else (raw.toNat : ℤ) - 65536 := by
  rw [q88Signed_eq_toInt, BitVec.toInt_eq_toNat_cond]
  omega

/-- Rounding to nearest with ties toward +infinity is the floor of the value and a half (R127). -/
theorem q88Milli_eq_floor (raw : Half) : q88Milli raw = ⌊1000 * qExact raw + 1 / 2⌋ := by
  have hvalue : 1000 * qExact raw + 1 / 2 = ((1000 * q88Signed raw + 128 : ℤ) : ℚ) / (256 : ℕ) := by
    rw [qExact]
    push_cast
    ring
  rw [hvalue, Rat.floor_intCast_div_natCast]
  rfl

/-- How far q88_milli lies above `1000 * Q_exact = 125 * s / 32`, in units of 1/32 m°C (R129). -/
def q88Excess (raw : Half) : ℤ :=
  16 - (125 * q88Signed raw + 16) % 32

theorem thousand_mul_qExact (raw : Half) : 1000 * qExact raw = 125 * q88Signed raw / 32 := by
  rw [qExact]
  ring

theorem q88Milli_sub_exact (raw : Half) : (q88Milli raw : ℚ) - 1000 * qExact raw = q88Excess raw / 32 := by
  have hscaled : 32 * q88Milli raw - 125 * q88Signed raw = q88Excess raw := by
    rw [q88Milli, q88Excess]
    omega
  rw [thousand_mul_qExact, ← hscaled]
  push_cast
  ring

theorem q88Excess_range (raw : Half) : -16 < q88Excess raw ∧ q88Excess raw ≤ 16 := by
  rw [q88Excess]
  omega

/-- 125 is odd, so `125 * s` is a multiple of 32 only when `s` is (R129). -/
theorem q88Excess_eq_zero_iff (raw : Half) : q88Excess raw = 0 ↔ q88Signed raw % 32 = 0 := by
  rw [q88Excess]
  omega

/-- The ties of R129. -/
theorem q88Excess_eq_sixteen_iff (raw : Half) : q88Excess raw = 16 ↔ q88Signed raw % 32 = 16 := by
  rw [q88Excess]
  omega

theorem q88Milli_eq_exact_iff (raw : Half) : (q88Milli raw : ℚ) = 1000 * qExact raw ↔ q88Excess raw = 0 := by
  rw [← sub_eq_zero, q88Milli_sub_exact, div_eq_zero_iff, or_iff_left (by norm_num), Int.cast_eq_zero]

/-- The error of q88_milli, its excess taken without sign. -/
theorem abs_q88Milli_sub_exact (raw : Half) :
    |(q88Milli raw : ℚ) - 1000 * qExact raw| = (|q88Excess raw| : ℤ) / 32 := by
  rw [q88Milli_sub_exact, abs_div, Int.cast_abs, abs_of_pos (by norm_num : (0 : ℚ) < 32)]

theorem abs_q88Milli_sub_exact_le (raw : Half) : |(q88Milli raw : ℚ) - 1000 * qExact raw| ≤ 1 / 2 := by
  obtain ⟨hlo, hhi⟩ := q88Excess_range raw
  have hle : |q88Excess raw| ≤ 16 := abs_le.mpr ⟨hlo.le, hhi⟩
  have hle' : ((|q88Excess raw| : ℤ) : ℚ) ≤ 16 := by exact_mod_cast hle
  rw [abs_q88Milli_sub_exact]
  linarith

/-- The error is 1/2 only upward, since the excess is above -16 (R129). -/
theorem abs_q88Milli_sub_exact_eq_half_iff (raw : Half) :
    |(q88Milli raw : ℚ) - 1000 * qExact raw| = 1 / 2 ↔ q88Excess raw = 16 := by
  obtain ⟨hlo, -⟩ := q88Excess_range raw
  have habs : |q88Excess raw| = 16 ↔ q88Excess raw = 16 := by
    rw [abs_eq (by decide)]
    exact or_iff_left hlo.ne'
  rw [abs_q88Milli_sub_exact, ← habs, div_eq_iff (by norm_num), ← Int.cast_inj (α := ℚ)]
  norm_num

theorem q88Milli_of_excess_eq_sixteen {raw : Half} (h : q88Excess raw = 16) :
    (q88Milli raw : ℚ) = 1000 * qExact raw + 1 / 2 := by
  have hsub := q88Milli_sub_exact raw
  rw [h] at hsub
  push_cast at hsub
  linarith

/-- Settles O49: the code's signed value, and rounding as a floor. -/
theorem q88MilliRoundsTiesUp : Obligations.Q88MilliRoundsTiesUp := fun raw =>
  ⟨q88Signed_eq_ite raw, rfl, rfl, q88Milli_eq_floor raw⟩

/-- Settles O50: the excess is 0 at the multiples of 32, and 16, its largest size, at the ties. -/
theorem q88MilliErrorBound : Obligations.Q88MilliErrorBound := fun raw =>
  ⟨(q88Milli_eq_exact_iff raw).trans (q88Excess_eq_zero_iff raw),
    abs_q88Milli_sub_exact_le raw,
    (abs_q88Milli_sub_exact_eq_half_iff raw).trans (q88Excess_eq_sixteen_iff raw),
    fun htie => q88Milli_of_excess_eq_sixteen ((q88Excess_eq_sixteen_iff raw).mpr htie)⟩

end Sys2Proof.Machine
end

section
/-! R130, R131: the range of every result, and its signed pattern. -/

namespace Sys2Proof.Machine

theorem tempMilli_range (raw : Half) : -45000 ≤ tempMilli raw ∧ tempMilli raw ≤ 130000 := by
  rw [tempMilli]
  omega

theorem tempNum_range (raw : Half) : -2949075 ≤ tempNum raw ∧ tempNum raw ≤ 8519550 := by
  rw [tempNum]
  omega

theorem rhMilli_range (raw : Half) : -6000 ≤ rhMilli raw ∧ rhMilli raw ≤ 119000 := by
  rw [rhMilli]
  omega

theorem rhNum_range (raw : Half) : -393210 ≤ rhNum raw ∧ rhNum raw ≤ 7798665 := by
  rw [rhNum]
  omega

theorem q88Milli_range (raw : Half) : -128000 ≤ q88Milli raw ∧ q88Milli raw ≤ 127996 := by
  have hsigned := q88Signed_range raw
  rw [q88Milli]
  omega

/-- The largest intermediate of R130. -/
theorem roundingDividend_le (raw : Half) : 175000 * raw.toNat + 32767 ≤ 11468657767 := by
  omega

/-- A result whose range lies in the signed 32-bit range does not wrap (R130). -/
theorem fromS32_toS32_of_range {lo hi i : ℤ} (hrange : lo ≤ i ∧ i ≤ hi) (hfit : -2 ^ 31 ≤ lo ∧ hi < 2 ^ 31) :
    fromS32 (toS32 i) = i := by
  obtain ⟨hlo, hhi⟩ := hrange
  obtain ⟨hfitlo, hfithi⟩ := hfit
  exact fromS32_toS32 (hfitlo.trans hlo) (hhi.trans_lt hfithi)

@[simp] theorem fromS32_toS32_tempMilli (raw : Half) : fromS32 (toS32 (tempMilli raw)) = tempMilli raw :=
  fromS32_toS32_of_range (tempMilli_range raw) (by decide)

@[simp] theorem fromS32_toS32_tempNum (raw : Half) : fromS32 (toS32 (tempNum raw)) = tempNum raw :=
  fromS32_toS32_of_range (tempNum_range raw) (by decide)

@[simp] theorem fromS32_toS32_rhMilli (raw : Half) : fromS32 (toS32 (rhMilli raw)) = rhMilli raw :=
  fromS32_toS32_of_range (rhMilli_range raw) (by decide)

@[simp] theorem fromS32_toS32_rhNum (raw : Half) : fromS32 (toS32 (rhNum raw)) = rhNum raw :=
  fromS32_toS32_of_range (rhNum_range raw) (by decide)

@[simp] theorem fromS32_toS32_q88Milli (raw : Half) : fromS32 (toS32 (q88Milli raw)) = q88Milli raw :=
  fromS32_toS32_of_range (q88Milli_range raw) (by decide)

/-- Settles O53: the four values, computed. -/
theorem boundaryValuesAreExact : Obligations.BoundaryValuesAreExact := by
  unfold Obligations.BoundaryValuesAreExact
  decide

/-- Settles O51: each range, its pattern and its two ends. -/
theorem resultsFitTheirRegisters : Obligations.ResultsFitTheirRegisters :=
  ⟨fun raw => ⟨tempMilli_range raw, tempNum_range raw, rhMilli_range raw, rhNum_range raw, q88Milli_range raw,
      q88Signed_range raw, fromS32_toS32_tempMilli raw, fromS32_toS32_tempNum raw, fromS32_toS32_rhMilli raw,
      fromS32_toS32_rhNum raw, fromS32_toS32_q88Milli raw, roundingDividend_le raw⟩, by decide⟩

end Sys2Proof.Machine
end

section
/-! R122, R125, R126, R128: the three conversion commands, and what they and DECODE_MEAS return. -/

namespace Sys2Proof.Machine

theorem exec_convT (s : State) :
    exec .convT s =
      .next (s.complete (toS32 (tempMilli (low16 s.in0))) (toS32 (tempNum (low16 s.in0))) 0#32 0#32) := rfl

theorem exec_convRh (s : State) :
    exec .convRh s =
      .next (s.complete (toS32 (rhMilli (low16 s.in0))) (toS32 (rhNum (low16 s.in0))) 0#32 0#32) := rfl

theorem exec_convQ88 (s : State) :
    exec .convQ88 s = .next (s.complete (toS32 (q88Milli (low16 s.in0))) (sext32 (low16 s.in0)) 0#32 0#32) := rfl

/-- DECODE_MEAS of a valid frame completes with both quantities and both raw codes (R102). -/
theorem exec_decodeMeas_of_valid {s : State} (h0 : fieldValid s.in0 = true) (h1 : fieldValid s.in1 = true) :
    exec .decodeMeas s = .next (s.complete
      (toS32 (tempMilli (field s.in0).1)) (toS32 (rhMilli (field s.in1).1))
      (zext32 (field s.in0).1) (zext32 (field s.in1).1)) := by
  rw [exec_decodeMeas, State.decodeFrame_of_valid h0 h1]

/-- q88_milli in the two's-complement value of the code (R127). -/
theorem q88Milli_eq_toInt (raw : Half) : q88Milli raw = (1000 * raw.toInt + 128) / 256 := by
  rw [q88Milli, q88Signed_eq_toInt]

/-- Settles O52: the results are the unclamped values, whose patterns do not wrap. -/
theorem conversionsAreNotClamped : Obligations.ConversionsAreNotClamped :=
  ⟨fun s => ⟨_, exec_convRh s, fromS32_toS32_rhMilli _⟩,
    fun s => ⟨_, exec_convT s, fromS32_toS32_tempMilli _⟩,
    fun _ h0 h1 => ⟨_, exec_decodeMeas_of_valid h0 h1, fromS32_toS32_tempMilli _, fromS32_toS32_rhMilli _⟩,
    rhMilli_range, by decide⟩

/-- Settles O42: the command's result, and the rule's values. -/
theorem convTResult : Obligations.ConvTResult := by
  refine ⟨rfl, exec_convT, by decide, by decide, by decide, by decide, by decide, by decide, ?_, by decide⟩
  norm_num [tExact]

/-- Settles O43: the command's result, and the rule's values. -/
theorem convRhResult : Obligations.ConvRhResult :=
  ⟨rfl, exec_convRh, by decide⟩

/-- Settles O44: the command's result in the two's-complement value, and the rule's values. -/
theorem convQ88Result : Obligations.ConvQ88Result := by
  refine ⟨rfl, fun s => ?_, by decide, by decide, by decide, ?_, by decide, ?_, ?_, ?_, ?_, by decide⟩
  · rw [exec_convQ88, q88Milli_eq_toInt]
    rfl
  · norm_num [thousand_mul_qExact, show q88Signed 0x7FFF#16 = 32767 by decide]
  · norm_num [thousand_mul_qExact, show q88Signed 0xFFFF#16 = -1 by decide]
  · norm_num [thousand_mul_qExact, show q88Signed 0x0010#16 = 16 by decide]
  · norm_num [thousand_mul_qExact, show q88Signed 0xFFF0#16 = -16 by decide]
  · norm_num [thousand_mul_qExact, show q88Signed 0x0001#16 = 1 by decide]

end Sys2Proof.Machine
end

section
/-! R140, R141: a port access completes without touching the host's control flow, and a checksum error leaves no result. -/

namespace Sys2Proof.Machine

/-- A command word, legal or not, leaves the host's side of the port (R140). -/
theorem execute_sameHost {w : Word} {s t : State} (h : execute w s = .next t) : s.sameHost t := by
  rcases execute_cases h with ⟨i, -, h⟩ | ⟨e, -, rfl⟩
  · rw [exec_frame h]
    exact ⟨rfl, rfl, rfl⟩
  · exact ⟨rfl, rfl, rfl⟩

theorem hostWrite_sameHost {widx : WordIndex} {v : Word} {s t : State} (h : hostWrite widx v s = .next t) :
    s.sameHost t := by
  rcases hostWrite_cases h with ⟨-, h⟩ | ⟨-, rfl⟩ | ⟨-, rfl⟩ | ⟨-, rfl⟩
  · exact execute_sameHost h
  all_goals exact ⟨rfl, rfl, rfl⟩

/-- A write completes at every word index (R45, R140). -/
theorem perform_write_next (widx : WordIndex) (v : Word) (s : State) : ∃ t, perform (.write widx v) s = .next t := by
  by_cases h : widx = 0#4
  · rw [h, perform_write_cmd]
    exact execute_next v s
  · obtain ⟨t, ht, -⟩ := perform_write_sameResults h v s
    exact ⟨t, ht⟩

/-- A read or write of the port completes, and the host's control flow is its own (R140). -/
theorem perform_atPort_next {m : HostMove} (hm : m.atPort = true) (s : State) :
    ∃ t, perform m s = .next t ∧ t.program = s.program ∧ t.position = s.position := by
  cases m with
  | read widx => exact ⟨_, perform_read widx s, rfl, rfl⟩
  | write widx v =>
    obtain ⟨t, ht⟩ := perform_write_next widx v s
    obtain ⟨hprogram, hposition, -⟩ := hostWrite_sameHost ht
    exact ⟨t, ht, hprogram, hposition⟩
  | signal | bridgeRead | bridgeWrite => cases hm

/-- A command that reports a checksum error has zeroed OUT0 to OUT3 (R103, R141). -/
theorem exec_outs_of_crcErr {i : Instr} {s t : State} (h : exec i s = .next t)
    (herr : crc0ErrFlag t.status = true ∨ crc1ErrFlag t.status = true) :
    t.out0 = 0#32 ∧ t.out1 = 0#32 ∧ t.out2 = 0#32 ∧ t.out3 = 0#32 := by
  rcases exec_cases h with ⟨a, b, c, d, rfl⟩ | ⟨-, -, rfl⟩
  · simp at herr
  · exact ⟨rfl, rfl, rfl, rfl⟩

end Sys2Proof.Machine
end

section
/-! The statements about the error outcomes (R140, R141, R145). -/

namespace Sys2Proof.Machine

/-- Settles O54: each kind of move completes, so the step that performs it does. -/
theorem everyHostAccessCompletes : Obligations.EveryHostAccessCompletes := by
  refine ⟨exec_next, execute_next, fun m s hm => perform_atPort_next hm s, fun s => ⟨_, perform_reset s⟩,
    fun s m hnext hm => ?_⟩
  rw [safeStep, step_of_nextMove hnext]
  rcases hm with hm | rfl
  · obtain ⟨t, ht, -⟩ := perform_atPort_next hm s.advance
    exact ⟨t, ht⟩
  · exact ⟨_, perform_reset s.advance⟩

/-- Settles O55: an illegal word sets ILLEGAL alone, and a command's word reports its fields and never ILLEGAL. -/
theorem errorOutcomesAndTheirRecords : Obligations.ErrorOutcomesAndTheirRecords := by
  intro w s
  cases hw : legalWord w with
  | false =>
    have hne : ¬ (w = encode .decodeMeas ∨ w = encode .decodeSerial) := by
      rintro (rfl | rfl) <;> simp at hw
    have h0 : crc0ErrFlag s.illegalCommand.status ≠ true := by simp
    have h1 : crc1ErrFlag s.illegalCommand.status ≠ true := by simp
    exact ⟨_, execute_of_illegal hw s, rfl, rfl, iff_of_false h0 fun h => hne h.1, iff_of_false h1 fun h => hne h.1,
      fun h => (not_or_intro h0 h1 h).elim, iff_of_true illegalFlag_statusIllegal rfl, fun _ => rfl⟩
  | true =>
    obtain ⟨i, rfl⟩ := (legalWord_iff w).mp hw
    obtain ⟨t, ht, -, h0, h1, hill, -⟩ := exec_statusFields i s
    obtain ⟨hin0, hin1⟩ := exec_operands ht
    have hnotIll : illegalFlag t.status ≠ true := Bool.eq_false_iff.mp hill
    rw [isDecode_iff_encode, fieldValid_eq_false_iff] at h0 h1
    exact ⟨t, (execute_encode i s).trans ht, hin0, hin1, h0, h1, exec_outs_of_crcErr ht,
      iff_of_false hnotIll (by simp), fun h => absurd h hnotIll⟩

/-- Settles O56: only an illegal word sets ILLEGAL, and its STATUS has no other flag. -/
theorem legalityIsCheckedFirst : Obligations.LegalityIsCheckedFirst := by
  refine ⟨fun w s a b hw => execute_of_illegal hw _, fun i s t _ h => ?_, fun w s t h hill => ?_⟩
  · obtain ⟨u, hu, -, -, -, -, hmem⟩ := exec_statusFields i s
    rw [h] at hu
    cases hu
    simpa using hmem
  · rcases execute_cases h with ⟨i, -, h⟩ | ⟨e, -, rfl⟩
    · exact absurd hill (Bool.eq_false_iff.mp (illegalFlag_of_exec h))
    · exact ⟨crc0ErrFlag_statusIllegal, crc1ErrFlag_statusIllegal⟩

end Sys2Proof.Machine
end

section
/-! R163, R167: a decode of the reset operands, and a read right after a command. -/

namespace Sys2Proof.Machine

/-- A register of value 0 is no valid field: the CRC of 0x0000 is 0x81 (R163). -/
theorem fieldValid_zero : fieldValid 0x00000000#32 = false := by decide

/-- Settles O58: both operands left from reset fail their check. -/
theorem resetOperandsFailTheDecode : Obligations.ResetOperandsFailTheDecode := by
  refine ⟨_, (execute_encode .decodeMeas State.reset).trans
    (exec_of_invalidFrame (.inl rfl) (.inl fieldValid_zero)), ?_⟩
  show statusDecodeFail (fieldValid 0#32) (fieldValid 0#32) = 0x00000006#32
  rw [fieldValid_zero]
  rfl

/-- Going on to the next move changes no word that the host can read. -/
@[simp] theorem State.readWord_advance (widx : WordIndex) (s : State) : s.advance.readWord widx = s.readWord widx :=
  rfl

/-- A command word does the same wherever the host stands in its list (R31, R142). -/
theorem execute_advance {w : Word} {s t : State} (h : execute w s = .next t) :
    execute w s.advance = .next t.advance := by
  rcases execute_cases h with ⟨i, hw, h⟩ | ⟨e, hw, rfl⟩
  · have hframe : t.advance = (s.advance.writeOuts t.out0 t.out1 t.out2 t.out3).writeStatus t.status :=
      congrArg State.advance (exec_frame h)
    rw [execute_of_ok hw, hframe]
    exact exec_of_sameOperands (s := s) rfl rfl h
  · exact execute_of_error hw s.advance

/-- A step at a CMD write is Execute of its word, the host then standing past the write (R47). -/
theorem step_of_cmdWrite {w : Word} {s t : State} (hm : s.nextMove = some (.write 0#4 w))
    (h : execute w s = .next t) : step s = .next t.advance :=
  (step_of_nextMove hm).trans (execute_advance h)

/-- A step at a read gives the host the word and changes no register (R44, R48). -/
theorem step_of_read {widx : WordIndex} {s : State} (hm : s.nextMove = some (.read widx)) :
    step s = .next (s.advance.receive (s.readWord widx)) := by
  rw [step_of_nextMove hm, perform_read, State.readWord_advance]

/-- Settles O23: the CMD write's step has done the whole command, so the read's step finds its results. -/
theorem readAfterCommandSeesItsResults : Obligations.ReadAfterCommandSeesItsResults := by
  intro s w widx hwrite hread
  obtain ⟨t, ht⟩ := execute_next w s
  obtain ⟨hprogram, hposition, hreceived⟩ := execute_sameHost ht
  have hnext : t.advance.nextMove = some (.read widx) := by
    rw [State.nextMove, State.advance_program, State.advance_position, hprogram, hposition, hread]
  refine ⟨t, t.advance, _, ht, step_of_cmdWrite hwrite ht, step_of_read hnext,
    ⟨rfl, rfl, rfl, rfl, rfl, rfl, rfl⟩, ?_⟩
  simp [hreceived]

end Sys2Proof.Machine
end
